-- ==== Sys2Proof/Word.lean ====
section
/-! DEFINITION. The words, the two ports, the two tool numbers and the pair type for positions, velocities, tilts and map offsets. -/

namespace Sys2Proof

/-- One byte on a port (R175). -/
abbrev Byte := BitVec 8

/-- A two-byte field on a port, most significant byte first (R175). -/
abbrev Half := BitVec 16

/-- The two ports, the S-port and the D-port. -/
inductive Port where
  | s
  | d
deriving DecidableEq, Repr

/-- The other of the two ports. -/
def Port.other : Port → Port
  | .s => .d
  | .d => .s

@[simp] theorem Port.other_other (p : Port) : p.other.other = p := by cases p <;> rfl
@[simp] theorem Port.other_ne (p : Port) : p.other ≠ p := by cases p <;> decide
@[simp] theorem Port.ne_other (p : Port) : p ≠ p.other := by cases p <;> decide

/-- The two tool records, T0 and T1. -/
inductive ToolId where
  | t0
  | t1
deriving DecidableEq, Repr

/-- A pair of whole numbers along X and Y: a position, a velocity, a tilt or a map offset. -/
structure Pt where
  x : Int
  y : Int
deriving DecidableEq, Repr

end Sys2Proof
end

