-- ==== Sys2Proof/Config.lean ====
section
/-! DEFINITION. The constants the spec fixes for the part. The spec leaves no result of a command undefined, so there is no free value here. Times are in µs. -/

namespace Sys2Proof.Config

/-- Records the Sample Ring holds (R103, R104). -/
def ringCapacity : Nat := 512

/-- Greatest number of records one Read Samples returns (R108). -/
def maxReadCount : Nat := 16

/-- Greatest number of entries one Read Capture returns (R159). -/
def maxCaptureCount : Nat := 48

/-- Largest Offset a Read Capture takes (R159). -/
def maxCaptureOffset : Nat := 155

/-- Coils a band covers, the channels of one receive bank (R3). -/
def bandCoils : Nat := 12

/-- Grid units in one coil pitch (chapter 1.1). -/
def pitch : Nat := 256

/-- Largest amplitude, at which the Front End saturates (R4). -/
def maxAmplitude : Nat := 4095

/-- Distance within which a tracked tool excludes a hit (R41, R43). -/
def exclusion : Int := 512

/-- Room kept between a plan's last reserved end and FramePeriod (R19). -/
def planMargin : Nat := 100

/-- Length of STARTING (R171). -/
def startingTime : Nat := 20000

/-- Pace of the key samples (R172). -/
def keySampleTime : Nat := 4000

/-- Time the key combination is held for a key restart (R173). -/
def keyRestartTime : Nat := 2000000

/-- Unit of ResumeDelay (R149). -/
def resumeUnit : Nat := 10000

/-- Start of the survey window (R155). -/
def surveyStart : Nat := 100

/-- Excitation of a RESPONSE survey window (R155). -/
def surveyExcite : Nat := 200

/-- Listen phase of a survey window (R155). -/
def surveyListen : Nat := 200

/-- Survey frames after which an unfinished survey times out (R157). -/
def surveyFrameLimit : Nat := 64

/-- Strong frames that confirm a tool (R50). -/
def confirmFrames : Nat := 3

/-- Largest magnitude of pr at which PhaseZero adapts (R77). -/
def adaptLimit : Int := 32

/-- Largest prediction displacement (R72). -/
def maxPrediction : Int := 2048

/-- Top of the scale of n and of pressure (chapter "Numbers and units"). -/
def fullScale : Nat := 8191

end Sys2Proof.Config
end

