-- ==== Sys2Proof/Syntax.lean ====
section
/-! DEFINITION. The commands the block takes: one constructor of Instr per row of spec/opcode_table.json, with the operands the row's rule gives. Argument fields are raw, with the widths of R175, so every value a master can send is an operand. -/

namespace Sys2Proof

/-- A slot record as Set Plan carries it and Read Plan returns it, eleven bytes (R18, R176). -/
structure SlotRecord where
  function : Byte
  tool : Byte
  start : Half
  excite : Half
  listen : Half
  slip : Half
  guard : Byte
deriving DecidableEq, Repr

/-- A plan: eight slot records, S0 to S7 (R18). -/
abbrev Plan := Vector SlotRecord 8

/-- The arguments of Set View (R115, R175). -/
structure ViewArgs where
  viewKind : Byte
  x0 : Half
  x1 : Half
  y0 : Half
  y1 : Half
  width : Half
  height : Half
  orientation : Byte
  lead : Half
deriving DecidableEq, Repr

/-- The arguments of Set Profile after the index (R36, R175). -/
structure ProfileArgs where
  enabled : Byte
  tipFreq : Half
  ringFreq : Half
  nominalZero : Half
  phaseSpan : Half
  ringHeight : Half
deriving DecidableEq, Repr

/-- The arguments of Set Pressure (R78, R80, R175). -/
structure PressureArgs where
  down : Half
  up : Half
  x1 : Half
  y1 : Half
  x2 : Half
  y2 : Half
  x3 : Half
  y3 : Half
deriving DecidableEq, Repr

/-- The arguments of Set Tracking (R139, R175). -/
structure TrackingArgs where
  acquire : Half
  hold : Half
  fadeFrames : Byte
  missLimit : Byte
  deadband : Byte
  tiltLimit : Half
deriving DecidableEq, Repr

/-- One node of Set Map Row: dx and dy, two's complement (R146, R175). -/
structure NodeArgs where
  dx : Half
  dy : Half
deriving DecidableEq, Repr

/-- The symbol a pen sends: status code, identity bit, marker (R6). -/
structure Symbol where
  code : BitVec 4
  bit : Bool
  marker : Bool
deriving DecidableEq, Repr

/-- What the Front End has measured when a listen phase ends (R4 to R7): the amplitudes of the
channels of the X and of the Y receive bank, the phase at each X channel, and the pen's symbol.
The slot under way decides which of them its observation holds: a window is the first five
channels of a bank, the one amplitude of a CODE slot is the first X channel. Log entry 5. -/
structure Reading where
  x : List Nat
  y : List Nat
  phase : List Nat
  symbol : Symbol
deriving DecidableEq, Repr

/-- The commands, one constructor per row of the opcode table, in the table's order. -/
inductive Instr where
  /-- READ_SAMPLES (R108). -/
  | readSamples (p : Port) (count : Byte)
  /-- SKIP_TO_NEWEST (R110). -/
  | skipToNewest (p : Port)
  /-- READ_LATEST (R113). -/
  | readLatest (p : Port)
  /-- READ_STATUS (R163). -/
  | readStatus (p : Port)
  /-- READ_ATTENTION (R132). -/
  | readAttention (p : Port)
  /-- SET_ATTENTION_MASK (R131). -/
  | setAttentionMask (p : Port) (mask : Half)
  /-- SET_TICK (R133). -/
  | setTick (p : Port) (point : Byte)
  /-- ACK_TICK (R134). -/
  | ackTick (p : Port)
  /-- SET_VIEW (R115). -/
  | setView (p : Port) (a : ViewArgs)
  /-- SET_WATERMARK (R107). -/
  | setWatermark (p : Port) (value : Half)
  /-- READ_TASK_RESULT (R128). -/
  | readTaskResult (p : Port)
  /-- ABORT_TASK (R129). -/
  | abortTask (p : Port)
  /-- SET_PLAN (R22). -/
  | setPlan (p : Port) (plan : Plan)
  /-- READ_PLAN (R165). -/
  | readPlan (p : Port) (which : Byte)
  /-- SET_GRID (R145). -/
  | setGrid (p : Port) (xCount yCount : Byte)
  /-- SET_TIMING (R144). -/
  | setTiming (p : Port) (framePeriod : Half) (syncMode syncRatio : Byte)
  /-- SET_PROFILE (R36). -/
  | setProfile (p : Port) (index : Byte) (a : ProfileArgs)
  /-- SET_PRESSURE (R78). -/
  | setPressure (p : Port) (a : PressureArgs)
  /-- SET_TRACKING (R139). -/
  | setTracking (p : Port) (a : TrackingArgs)
  /-- SET_MAP_ROW (R146). -/
  | setMapRow (p : Port) (row : Byte) (nodes : Vector NodeArgs 9)
  /-- SET_KEY_COMBO (R173). -/
  | setKeyCombo (p : Port) (combo : Byte)
  /-- READ_MAP_ROW (R147). -/
  | readMapRow (p : Port) (row : Byte)
  /-- READ_SETTINGS (R147). -/
  | readSettings (p : Port)
  /-- HOLD_SCAN (R149). -/
  | holdScan (p : Port) (resumeDelay : Byte)
  /-- RESUME_SCAN (R152). -/
  | resumeScan (p : Port)
  /-- COIL_SURVEY (R154). -/
  | coilSurvey (p : Port) (kind profile : Byte)
  /-- READ_CAPTURE (R159). -/
  | readCapture (p : Port) (offset count unlock : Byte)
  /-- PORT_RESET (R136). -/
  | portReset (p : Port)
  /-- COLD_RESTART (R167). -/
  | coldRestart (p : Port)
  /-- WARM_RESTART (R167). -/
  | warmRestart (p : Port)
  /-- FETCH_RESPONSE (R124), whose code byte arrives now: `clocked` bytes are clocked out after it (log entry 18). -/
  | fetchResponse (p : Port) (clocked : Nat)
  /-- UNKNOWN_CODE (R122): a request transaction with a code the part does not know. -/
  | unknownCode (p : Port) (code : Byte)
  /-- BAD_LENGTH (R122): a known code with a wrong length byte or too few argument bytes. -/
  | badLength (p : Port) (code : Byte)
  /-- ANSWER_READY (R123). -/
  | answerReady (p : Port)
  /-- SCHEDULED_FRAME_START (R8, R9). -/
  | scheduledFrameStart
  /-- MID_POINT (R10). -/
  | midPoint
  /-- DSYNC (R14). -/
  | dsync
  /-- SYNC_TIMER_EXPIRY (R16). -/
  | syncTimerExpiry
  /-- SLOT_BEGIN (R26): the frame timer reaches the Start of the next slot of the frame. -/
  | slotBegin
  /-- DRIVE_BUSY_FALL (R27). -/
  | driveBusyFall
  /-- DRIVE_BUSY_RISE (R29). -/
  | driveBusyRise
  /-- SLIP_EXPIRY (R27). -/
  | slipExpiry
  /-- EXCITATION_END (R28). -/
  | excitationEnd
  /-- LISTEN_END (R28): `r` is what the Front End has measured. -/
  | listenEnd (r : Reading)
  /-- AUTO_RESUME_EXPIRY (R151). -/
  | autoResumeExpiry
  /-- POWER_ON (R169). -/
  | powerOn
  /-- RESET_N_LOW (R169). -/
  | resetNLow
  /-- RESET_N_RISE (R169). -/
  | resetNRise
  /-- STARTING_END (R171). -/
  | startingEnd
  /-- KEY_SAMPLE (R172): the four keys as the sample reads them, true for PRESSED. -/
  | keySample (k0 k1 k2 k3 : Bool)
  /-- KEY_RESTART_HOLD_EXPIRY (R174). -/
  | keyRestartHoldExpiry
  /-- POWER_FAIL (R171). -/
  | powerFail
deriving DecidableEq, Repr

end Sys2Proof
end

