-- ==== Sys2Proof/Machine/Codes.lean ====
section
/-! DEFINITION. The request codes and argument lengths (R175). -/

namespace Sys2Proof.Machine

/-- The argument length of each known request code; none for a code the part does not know (R175).
0x00 is Fetch Response and no request (R121). -/
def requestLength (code : Byte) : Option Nat :=
  match code.toNat with
  | 0x10 => some 1
  | 0x11 => some 0
  | 0x12 => some 0
  | 0x13 => some 0
  | 0x20 => some 0
  | 0x21 => some 2
  | 0x22 => some 1
  | 0x23 => some 0
  | 0x28 => some 16
  | 0x29 => some 2
  | 0x30 => some 0
  | 0x31 => some 0
  | 0x38 => some 88
  | 0x39 => some 1
  | 0x40 => some 2
  | 0x41 => some 4
  | 0x42 => some 12
  | 0x43 => some 16
  | 0x44 => some 9
  | 0x45 => some 37
  | 0x46 => some 1
  | 0x48 => some 1
  | 0x49 => some 0
  | 0x50 => some 1
  | 0x51 => some 0
  | 0x52 => some 2
  | 0x53 => some 3
  | 0x70 => some 0
  | 0x7A => some 0
  | 0x7B => some 0
  | _ => none

/-- The port a command comes in at, with the code byte of its transaction (R121, R175); none for
a command that is no transaction. -/
def transactionCode : Instr → Option (Port × Byte)
  | .readSamples p _ => some (p, 0x10)
  | .skipToNewest p => some (p, 0x11)
  | .readLatest p => some (p, 0x12)
  | .readStatus p => some (p, 0x13)
  | .readAttention p => some (p, 0x20)
  | .setAttentionMask p _ => some (p, 0x21)
  | .setTick p _ => some (p, 0x22)
  | .ackTick p => some (p, 0x23)
  | .setView p _ => some (p, 0x28)
  | .setWatermark p _ => some (p, 0x29)
  | .readTaskResult p => some (p, 0x30)
  | .abortTask p => some (p, 0x31)
  | .setPlan p _ => some (p, 0x38)
  | .readPlan p _ => some (p, 0x39)
  | .setGrid p _ _ => some (p, 0x40)
  | .setTiming p _ _ _ => some (p, 0x41)
  | .setProfile p _ _ => some (p, 0x42)
  | .setPressure p _ => some (p, 0x43)
  | .setTracking p _ => some (p, 0x44)
  | .setMapRow p _ _ => some (p, 0x45)
  | .setKeyCombo p _ => some (p, 0x46)
  | .readMapRow p _ => some (p, 0x48)
  | .readSettings p => some (p, 0x49)
  | .holdScan p _ => some (p, 0x50)
  | .resumeScan p => some (p, 0x51)
  | .coilSurvey p _ _ => some (p, 0x52)
  | .readCapture p _ _ _ => some (p, 0x53)
  | .portReset p => some (p, 0x70)
  | .coldRestart p => some (p, 0x7A)
  | .warmRestart p => some (p, 0x7B)
  | .fetchResponse p _ => some (p, 0x00)
  | .unknownCode p code => some (p, code)
  | .badLength p code => some (p, code)
  | .answerReady _ => none
  | .scheduledFrameStart => none
  | .midPoint => none
  | .dsync => none
  | .syncTimerExpiry => none
  | .slotBegin => none
  | .driveBusyFall => none
  | .driveBusyRise => none
  | .slipExpiry => none
  | .excitationEnd => none
  | .listenEnd _ => none
  | .autoResumeExpiry => none
  | .powerOn => none
  | .resetNLow => none
  | .resetNRise => none
  | .startingEnd => none
  | .keySample _ _ _ _ => none
  | .keyRestartHoldExpiry => none
  | .powerFail => none

end Sys2Proof.Machine
end

