-- ==== Sys2Proof/WellFormed.lean ====
section
/-! DEFINITION. What a command must satisfy to be one that its sender can send: codes of the right kind, readings of the banks' size and scale. exec gives every command an effect, well formed or not. -/

namespace Sys2Proof

/-- A reading the Front End can give: 12 channels a bank, amplitudes 0..4095, phases 0..1023 (R3 to R5). -/
def Reading.wf (r : Reading) : Bool :=
  r.x.length == Config.bandCoils && r.y.length == Config.bandCoils && r.phase.length == Config.bandCoils
    && r.x.all (· ≤ Config.maxAmplitude) && r.y.all (· ≤ Config.maxAmplitude) && r.phase.all (· < 1024)

/-- A well-formed command. UNKNOWN_CODE names no known code and not Fetch Response's 0x00,
BAD_LENGTH names a known code (R122), and a reading is one the Front End can give. -/
def Instr.wf : Instr → Bool
  | .unknownCode _ code => code != 0 && (Machine.requestLength code).isNone
  | .badLength _ code => (Machine.requestLength code).isSome
  | .listenEnd r => r.wf
  | _ => true

end Sys2Proof
end

