-- ==== Sys2Proof/Decode.lean ====
section
/-! DEFINITION. decodeTableWord over the rows of the opcode table that give bits (there is none), and the byte form of a port transaction: which command the bytes of one chip-select transaction are (R121, R122, R175, R176), and the bytes of a command. -/

namespace Sys2Proof

/-- The command a word of the opcode table spells. No row of the table gives bits, so no word
spells a command. -/
def decodeTableWord (_nbits _w : Nat) : Option Instr := none

/-- Byte i of the argument bytes. -/
def argByte (a : List Byte) (i : Nat) : Byte := a.getD i 0

/-- The two-byte field at byte i, most significant byte first (R175). -/
def argHalf (a : List Byte) (i : Nat) : Half := argByte a i ++ argByte a (i + 1)

/-- The eleven-byte slot record at byte i (R176). -/
def argSlot (a : List Byte) (i : Nat) : SlotRecord :=
  { function := argByte a i, tool := argByte a (i + 1), start := argHalf a (i + 2), excite := argHalf a (i + 4),
    listen := argHalf a (i + 6), slip := argHalf a (i + 8), guard := argByte a (i + 10) }

/-- The node at byte i: dx then dy. -/
def argNode (a : List Byte) (i : Nat) : NodeArgs := { dx := argHalf a i, dy := argHalf a (i + 2) }

/-- The request with a known code and its argument bytes, in the order of the table of R175. -/
def decodeRequest (p : Port) (code : Byte) (a : List Byte) : Instr :=
  match code.toNat with
  | 0x10 => .readSamples p (argByte a 0)
  | 0x11 => .skipToNewest p
  | 0x12 => .readLatest p
  | 0x13 => .readStatus p
  | 0x20 => .readAttention p
  | 0x21 => .setAttentionMask p (argHalf a 0)
  | 0x22 => .setTick p (argByte a 0)
  | 0x23 => .ackTick p
  | 0x28 => .setView p
      { viewKind := argByte a 0, x0 := argHalf a 1, x1 := argHalf a 3, y0 := argHalf a 5, y1 := argHalf a 7,
        width := argHalf a 9, height := argHalf a 11, orientation := argByte a 13, lead := argHalf a 14 }
  | 0x29 => .setWatermark p (argHalf a 0)
  | 0x30 => .readTaskResult p
  | 0x31 => .abortTask p
  | 0x38 => .setPlan p #v[argSlot a 0, argSlot a 11, argSlot a 22, argSlot a 33, argSlot a 44, argSlot a 55,
      argSlot a 66, argSlot a 77]
  | 0x39 => .readPlan p (argByte a 0)
  | 0x40 => .setGrid p (argByte a 0) (argByte a 1)
  | 0x41 => .setTiming p (argHalf a 0) (argByte a 2) (argByte a 3)
  | 0x42 => .setProfile p (argByte a 0)
      { enabled := argByte a 1, tipFreq := argHalf a 2, ringFreq := argHalf a 4, nominalZero := argHalf a 6,
        phaseSpan := argHalf a 8, ringHeight := argHalf a 10 }
  | 0x43 => .setPressure p
      { down := argHalf a 0, up := argHalf a 2, x1 := argHalf a 4, y1 := argHalf a 6, x2 := argHalf a 8,
        y2 := argHalf a 10, x3 := argHalf a 12, y3 := argHalf a 14 }
  | 0x44 => .setTracking p
      { acquire := argHalf a 0, hold := argHalf a 2, fadeFrames := argByte a 4, missLimit := argByte a 5,
        deadband := argByte a 6, tiltLimit := argHalf a 7 }
  | 0x45 => .setMapRow p (argByte a 0) #v[argNode a 1, argNode a 5, argNode a 9, argNode a 13, argNode a 17,
      argNode a 21, argNode a 25, argNode a 29, argNode a 33]
  | 0x46 => .setKeyCombo p (argByte a 0)
  | 0x48 => .readMapRow p (argByte a 0)
  | 0x49 => .readSettings p
  | 0x50 => .holdScan p (argByte a 0)
  | 0x51 => .resumeScan p
  | 0x52 => .coilSurvey p (argByte a 0) (argByte a 1)
  | 0x53 => .readCapture p (argByte a 0) (argByte a 1) (argByte a 2)
  | 0x70 => .portReset p
  | 0x7A => .coldRestart p
  | 0x7B => .warmRestart p
  | _ => .unknownCode p code

/-- The command that the whole bytes of one chip-select transaction are. None: no whole byte
arrived and the transaction is ignored. Otherwise the checks of R122 in their order. Bytes after
the stated arguments are discarded (R121). -/
def decodeTransaction (p : Port) : List Byte → Option Instr
  | [] => none
  | code :: rest =>
    if code = 0 then some (.fetchResponse p rest.length)
    else
      match Machine.requestLength code with
      | none => some (.unknownCode p code)
      | some n =>
        match rest with
        | [] => some (.badLength p code)
        | len :: args =>
          if len.toNat = n ∧ n ≤ args.length then some (decodeRequest p code (args.take n))
          else some (.badLength p code)

/-- The two bytes of a field, most significant first. -/
def halfBytes (h : Half) : List Byte := [h.extractLsb' 8 8, h.extractLsb' 0 8]

/-- The eleven bytes of a slot record (R176). -/
def SlotRecord.bytes (r : SlotRecord) : List Byte :=
  [r.function, r.tool] ++ halfBytes r.start ++ halfBytes r.excite ++ halfBytes r.listen ++ halfBytes r.slip ++ [r.guard]

/-- The four bytes of a map node. -/
def NodeArgs.bytes (n : NodeArgs) : List Byte := halfBytes n.dx ++ halfBytes n.dy

/-- A request transaction: code byte, length byte, argument bytes (R175). -/
def requestBytes (code : Byte) (args : List Byte) : List Byte := code :: BitVec.ofNat 8 args.length :: args

/-- The bytes of a command that is a transaction; a command that is none has none. BAD_LENGTH is
written as its code byte alone. -/
def encodeTransaction : Instr → List Byte
  | .readSamples _ count => requestBytes 0x10 [count]
  | .skipToNewest _ => requestBytes 0x11 []
  | .readLatest _ => requestBytes 0x12 []
  | .readStatus _ => requestBytes 0x13 []
  | .readAttention _ => requestBytes 0x20 []
  | .setAttentionMask _ mask => requestBytes 0x21 (halfBytes mask)
  | .setTick _ point => requestBytes 0x22 [point]
  | .ackTick _ => requestBytes 0x23 []
  | .setView _ a => requestBytes 0x28 ([a.viewKind] ++ halfBytes a.x0 ++ halfBytes a.x1 ++ halfBytes a.y0
      ++ halfBytes a.y1 ++ halfBytes a.width ++ halfBytes a.height ++ [a.orientation] ++ halfBytes a.lead)
  | .setWatermark _ value => requestBytes 0x29 (halfBytes value)
  | .readTaskResult _ => requestBytes 0x30 []
  | .abortTask _ => requestBytes 0x31 []
  | .setPlan _ plan => requestBytes 0x38 (plan.toList.flatMap SlotRecord.bytes)
  | .readPlan _ which => requestBytes 0x39 [which]
  | .setGrid _ x y => requestBytes 0x40 [x, y]
  | .setTiming _ fp mode ratio => requestBytes 0x41 (halfBytes fp ++ [mode, ratio])
  | .setProfile _ index a => requestBytes 0x42 ([index, a.enabled] ++ halfBytes a.tipFreq ++ halfBytes a.ringFreq
      ++ halfBytes a.nominalZero ++ halfBytes a.phaseSpan ++ halfBytes a.ringHeight)
  | .setPressure _ a => requestBytes 0x43 (halfBytes a.down ++ halfBytes a.up ++ halfBytes a.x1 ++ halfBytes a.y1
      ++ halfBytes a.x2 ++ halfBytes a.y2 ++ halfBytes a.x3 ++ halfBytes a.y3)
  | .setTracking _ a => requestBytes 0x44 (halfBytes a.acquire ++ halfBytes a.hold
      ++ [a.fadeFrames, a.missLimit, a.deadband] ++ halfBytes a.tiltLimit)
  | .setMapRow _ row nodes => requestBytes 0x45 (row :: nodes.toList.flatMap NodeArgs.bytes)
  | .setKeyCombo _ combo => requestBytes 0x46 [combo]
  | .readMapRow _ row => requestBytes 0x48 [row]
  | .readSettings _ => requestBytes 0x49 []
  | .holdScan _ delay => requestBytes 0x50 [delay]
  | .resumeScan _ => requestBytes 0x51 []
  | .coilSurvey _ kind profile => requestBytes 0x52 [kind, profile]
  | .readCapture _ offset count unlock => requestBytes 0x53 [offset, count, unlock]
  | .portReset _ => requestBytes 0x70 []
  | .coldRestart _ => requestBytes 0x7A []
  | .warmRestart _ => requestBytes 0x7B []
  | .fetchResponse _ clocked => (0 : Byte) :: List.replicate clocked 0
  | .unknownCode _ code => [code]
  | .badLength _ code => [code]
  | .answerReady _ => []
  | .scheduledFrameStart => []
  | .midPoint => []
  | .dsync => []
  | .syncTimerExpiry => []
  | .slotBegin => []
  | .driveBusyFall => []
  | .driveBusyRise => []
  | .slipExpiry => []
  | .excitationEnd => []
  | .listenEnd _ => []
  | .autoResumeExpiry => []
  | .powerOn => []
  | .resetNLow => []
  | .resetNRise => []
  | .startingEnd => []
  | .keySample _ _ _ _ => []
  | .keyRestartHoldExpiry => []
  | .powerFail => []

end Sys2Proof
end

