-- ==== Sys2Proof/Machine/Types.lean ====
section
/-! DEFINITION. The parts the state is made of: the named values of the spec and the record each block holds. -/

namespace Sys2Proof.Machine

/-! ## Named values -/

/-- Function of a slot record (R18). -/
inductive SlotFunction where
  | idle
  | search
  | track
  | tilt
  | code
  | noise
deriving DecidableEq, Repr

/-- How a slot ended (chapter 2.4). -/
inductive SlotOutcome where
  | done
  | notNeeded
  | skipped
  | cut
  | truncated
  | idle
deriving DecidableEq, Repr

/-- The phase of the frame timer (chapter 1.3). -/
inductive FramePhase where
  | running
  | tail
  | stopped
deriving DecidableEq, Repr

/-- SyncMode (R13). -/
inductive SyncMode where
  | free
  | locked
deriving DecidableEq, Repr

/-- The sync state (R13). -/
inductive SyncState where
  | free
  | seeking
  | locked
deriving DecidableEq, Repr

/-- An axis of the grid. -/
inductive Axis where
  | x
  | y
deriving DecidableEq, Repr

/-- A port's tick point (R133). -/
inductive TickPoint where
  | off
  | frameStart
  | midFrame
deriving DecidableEq, Repr

/-- ViewKind (R114). -/
inductive ViewKind where
  | grid
  | display
deriving DecidableEq, Repr

/-- Orientation of a view, in degrees (R114). -/
inductive Orientation where
  | deg0
  | deg90
  | deg180
  | deg270
deriving DecidableEq, Repr

/-- KeyRestartCombo (R138, R173). -/
inductive KeyCombo where
  | none
  | k01
  | k012
  | all
deriving DecidableEq, Repr

/-- Kind of a Coil Survey (R154). -/
inductive SurveyKind where
  | baseline
  | response
deriving DecidableEq, Repr

/-- Kind of a task (R126). -/
inductive TaskKind where
  | setPlan
  | holdScan
  | coilSurvey
deriving DecidableEq, Repr

/-- Result codes (R125); `ok` is OK as an answer and DONE as a task result. -/
inductive ResultCode where
  | ok
  | taken
  | busy
  | rejected
  | locked
  | badValue
  | badLength
  | unknown
  | notOwner
  | aborted
  | timedOut
  | superseded
  | cancelled
deriving DecidableEq, Repr

/-- The mode of the part (R148). -/
inductive Mode where
  | starting
  | scanning
  | holding
  | held
  | survey
deriving DecidableEq, Repr

/-- State of a tool record (R45). -/
inductive ToolState where
  | vacant
  | acquire
  | hover
  | contact
  | fade
deriving DecidableEq, Repr

/-- IdentityStatus (R98). -/
inductive IdentityStatus where
  | unknown
  | partly
  | known
deriving DecidableEq, Repr

/-- Kind of a sample record (R101). -/
inductive SampleKind where
  | motion
  | enter
  | strokeBegin
  | strokeEnd
  | leave
  | code
deriving DecidableEq, Repr

/-- The fourteen attention events, in the order of their bits (R130, R181). -/
inductive Event where
  | taskDone
  | samplesWaiting
  | overrun
  | toolEnter
  | toolLeave
  | codeChange
  | identityKnown
  | keyChange
  | syncLost
  | syncRegained
  | settingsChanged
  | modeChanged
  | tickMissed
  | restarted
deriving DecidableEq, Repr

/-! ## Shared settings (R138) -/

/-- The Timing item (R8, R13). -/
structure Timing where
  framePeriod : Nat
  syncMode : SyncMode
  syncRatio : Nat
deriving DecidableEq, Repr

/-- A pen profile (R35). -/
structure Profile where
  enabled : Bool
  tipFreq : Nat
  ringFreq : Nat
  nominalZero : Nat
  phaseSpan : Nat
  ringHeight : Nat
deriving DecidableEq, Repr

/-- The Pressure item: thresholds and curve knots (R78, R80). -/
structure Pressure where
  down : Nat
  up : Nat
  x1 : Nat
  y1 : Nat
  x2 : Nat
  y2 : Nat
  x3 : Nat
  y3 : Nat
deriving DecidableEq, Repr

/-- The Tracking item (R34, R49, R51, R69, R86). -/
structure Tracking where
  acquire : Nat
  hold : Nat
  fadeFrames : Nat
  missLimit : Nat
  deadband : Nat
  tiltLimit : Nat
deriving DecidableEq, Repr

/-- One row of the correction map: nine (dx, dy) pairs (R64). -/
abbrev MapRow := Vector Pt 9

/-- The applied values of every item of the Settings Store (R138). -/
structure Settings where
  xCount : Nat
  yCount : Nat
  timing : Timing
  profiles : Vector Profile 4
  pressure : Pressure
  tracking : Tracking
  map : Vector MapRow 7
  combo : KeyCombo
deriving DecidableEq, Repr

/-- A pending change: the value it will bring and the port that took it (R138). -/
structure Change (α : Type) where
  value : α
  port : Port
deriving DecidableEq, Repr

/-- The pending change of each item that can have one; the Grid never has one (R138, R140). -/
structure Waiting where
  timing : Option (Change Timing)
  profiles : Vector (Option (Change Profile)) 4
  pressure : Option (Change Pressure)
  tracking : Option (Change Tracking)
  map : Vector (Option (Change MapRow)) 7
  combo : Option (Change KeyCombo)
deriving DecidableEq, Repr

/-! ## Observations and the slot under way -/

/-- A TRACK observation with the window centres its slot used (R5, R58). -/
structure TrackObs where
  cx : Int
  cy : Int
  xs : List Nat
  ys : List Nat
  phase : Nat
deriving DecidableEq, Repr

/-- A TILT observation with the window centres its slot used (R5). -/
structure TiltObs where
  cx : Int
  cy : Int
  xs : List Nat
  ys : List Nat
deriving DecidableEq, Repr

/-- A CODE observation (R6). -/
structure CodeObs where
  amplitude : Nat
  symbol : Symbol
deriving DecidableEq, Repr

/-- The observations of one frame that wait for the frame end, for one tool (R7, R47). -/
structure ToolObs where
  track : Option TrackObs
  tilt : Option TiltObs
  code : Option CodeObs
deriving DecidableEq, Repr

/-- What the Front End is told at a slot's start: the function, the coils and the frequency in kHz
(R4, R39, R55, R155). -/
inductive Job where
  /-- window centres `cx`, `cy`; the centre X coil is driven -/
  | track (tool : ToolId) (freq : Nat) (cx cy : Int)
  /-- as `track`, at the ring frequency -/
  | tilt (tool : ToolId) (freq : Nat) (cx cy : Int)
  /-- the code coil is driven and listened to -/
  | code (tool : ToolId) (freq : Nat) (coil : Int)
  /-- X band `band` is driven and listened to -/
  | sweep (freq band : Nat)
  /-- the hit X coil is driven, Y band `band` is listened to -/
  | locate (freq : Nat) (coil : Int) (band : Nat)
  /-- nothing is driven, one band is listened to -/
  | noise (axis : Axis) (band : Nat)
  /-- the survey window -/
  | survey (kind : SurveyKind) (freq bx byy : Nat) (xDone yDone : Bool)
deriving DecidableEq, Repr

/-- The slot under way (R26 to R29). Times count from the frame start. -/
inductive SlotRun where
  | none
  /-- at its Start, waiting out DRIVE_BUSY within its slip -/
  | waiting (slot : Fin 8) (job : Job)
  /-- exciting since `since` -/
  | exciting (slot : Fin 8) (job : Job) (since : Nat)
  /-- listening, having run since `since` -/
  | listening (slot : Fin 8) (job : Job) (since : Nat)
deriving DecidableEq, Repr

/-- The survey window of a survey frame (R155): its kind and profile, its bands, the axes done. -/
structure SurveyWindow where
  kind : SurveyKind
  profile : Fin 4
  bx : Nat
  byy : Nat
  xDone : Bool
  yDone : Bool
deriving DecidableEq, Repr

/-- The Pending Plan with its issuing port (chapter 2.3). -/
structure PendingPlan where
  plan : Plan
  issuer : Port
deriving DecidableEq, Repr

/-- What the Scan Timing Unit holds (chapters 1 and 2). -/
structure Frame where
  phase : FramePhase
  timer : Nat
  midDone : Bool
  count : BitVec 32
  activePlan : Plan
  pendingPlan : Option PendingPlan
  outcomes : Vector (Option SlotOutcome) 8
  next : Nat
  run : SlotRun
  window : Option SurveyWindow
  obs0 : ToolObs
  obs1 : ToolObs
  lastOutcomes : Vector SlotOutcome 8
  lastFrame : Option (BitVec 16)
  sync : SyncState
  syncTimer : Option Nat
  noiseAxis : Axis
  noiseBand : Nat
  noiseFloor : Nat
deriving DecidableEq, Repr

/-- Phase of the Search Cursor (R38). -/
inductive SearchPhase where
  | sweep
  | locate
deriving DecidableEq, Repr

/-- The Search Cursor (R38). -/
structure SearchCursor where
  phase : SearchPhase
  profile : Fin 4
  band : Nat
  hitX : Option Int
  bestAmp : Option Nat
  bestY : Option Int
deriving DecidableEq, Repr

/-! ## Tool Table, ring and snapshots -/

/-- A tool record (R45). Corrected, reported and ring positions are absent or whole. -/
structure Tool where
  state : ToolState
  profile : Fin 4
  raw : Pt
  rawV : Pt
  pos : Option Pt
  vel : Pt
  rep : Option Pt
  n : Nat
  pressure : Nat
  phaseZero : Nat
  ring : Option Pt
  tilt : Pt
  tiltStale : Bool
  tiltClamped : Bool
  acceptedCode : Option (BitVec 4)
  codeCandidate : Option (BitVec 4)
  identity : Option (BitVec 32)
  identityStatus : IdentityStatus
  identityCandidate : Option (BitVec 32)
  assembly : Option (List Bool)
  stroke : BitVec 8
  strokeOpen : Bool
  confirmCount : Nat
  fadeCount : Nat
  missCount : Nat
  lastObs : BitVec 32
  releaseMark : Bool
deriving DecidableEq, Repr

/-- A sample record as the ring keeps it; OutOfArea is formed at the read (R101). -/
structure Sample where
  seq : BitVec 16
  stamp : BitVec 16
  kind : SampleKind
  tool : ToolId
  code : BitVec 4
  pos : Pt
  pressure : Nat
  tilt : Pt
  stroke : BitVec 8
  tiltStale : Bool
  tiltClamped : Bool
  edgeX : Bool
  edgeY : Bool
  held : Bool
  codeChanged : Bool
deriving DecidableEq, Repr

/-- A snapshot (R111). -/
structure Snapshot where
  state : ToolState
  profile : Fin 4
  rep : Option Pt
  pressure : Nat
  tilt : Pt
  tiltStale : Bool
  tiltClamped : Bool
  code : Option (BitVec 4)
  stroke : BitVec 8
  strokeOpen : Bool
  identityStatus : IdentityStatus
  identity : Option (BitVec 32)
  lastSeq : Option (BitVec 16)
  stamp : BitVec 16
deriving DecidableEq, Repr

/-! ## Mode Control -/

/-- A taken Coil Survey that waits for its first frame (R148, R154). -/
structure Reservation where
  port : Port
  kind : SurveyKind
  profile : Fin 4
deriving DecidableEq, Repr

/-- The active survey (R154 to R157); `xs`, `ys` are the amplitudes stored so far, in coil order. -/
structure Survey where
  kind : SurveyKind
  profile : Fin 4
  frames : Nat
  bx : Nat
  byy : Nat
  xDone : Bool
  yDone : Bool
  xs : List Nat
  ys : List Nat
deriving DecidableEq, Repr

/-- A completed capture; the buffer holds one exactly while it is locked, to `owner` (R158). -/
structure Capture where
  kind : SurveyKind
  profile : Fin 4
  xCount : Nat
  yCount : Nat
  stamp : BitVec 16
  entries : List Nat
  owner : Port
deriving DecidableEq, Repr

/-- What Mode Control holds (R148, R151, R158). -/
structure Control where
  mode : Mode
  owner : Option Port
  reservation : Option Reservation
  survey : Option Survey
  resumeDelay : Nat
  autoResume : Option Nat
  capture : Option Capture
deriving DecidableEq, Repr

/-! ## Ports -/

/-- A port's view (R114). -/
structure View where
  kind : ViewKind
  x0 : Int
  x1 : Int
  y0 : Int
  y1 : Int
  width : Nat
  height : Nat
  orientation : Orientation
  lead : Nat
deriving DecidableEq, Repr

/-- A task slot (R126). -/
inductive TaskSlot where
  | empty
  | running (kind : TaskKind)
  | completed (kind : TaskKind) (result : ResultCode)
deriving DecidableEq, Repr

/-- An answer: echoed code, result code, payload (R123). -/
structure Answer where
  code : Byte
  result : ResultCode
  payload : List Byte
deriving DecidableEq, Repr

/-- The answer store of a port (R123). NOT_READY holds the answer that is being formed. -/
inductive Store where
  | none
  | notReady (a : Answer)
  | ready (a : Answer)
deriving DecidableEq, Repr

/-- What a Port Controller holds (chapters 7 and 8). `events` is the attention record without
CodeChange, which follows the lists (R95). `sent` is the bytes driven after the code byte of the port's latest
transaction, 0 past its end (R121, R124, log entry 6). -/
structure PortState where
  cursor : BitVec 16
  watermark : Nat
  view : View
  events : BitVec 16
  mask : BitVec 16
  tickPoint : TickPoint
  tickPending : Bool
  list0 : List (BitVec 4)
  list1 : List (BitVec 4)
  slot : TaskSlot
  store : Store
  sent : List Byte
deriving DecidableEq, Repr

/-! ## Key Monitor, pins -/

/-- One bezel key: accepted level and previous sample, true for PRESSED (R172). -/
structure Key where
  accepted : Bool
  previous : Option Bool
deriving DecidableEq, Repr

/-- The key-restart hold timer (R173). -/
inductive HoldTimer where
  | stopped
  | running (held : Nat)
  | spent
deriving DecidableEq, Repr

/-- What the Key Monitor holds (R172, R173). -/
structure Keys where
  key0 : Key
  key1 : Key
  key2 : Key
  key3 : Key
  pace : Nat
  hold : HoldTimer
deriving DecidableEq, Repr

/-- Power, the RESET_N and DRIVE_BUSY levels, and the start-up timer of Restart Control (R169, R171). -/
structure Pins where
  power : Bool
  resetN : Bool
  driveBusy : Bool
  startup : Option Nat
deriving DecidableEq, Repr

/-- The kinds of restart (R169). -/
inductive RestartKind where
  | powerOn
  | cold
  | warm
deriving DecidableEq, Repr

end Sys2Proof.Machine
end

