-- ==== Sys2Proof/Machine/Defaults.lean ====
section
/-! DEFINITION. The values the spec gives each part of the state at a power-on restart. -/

namespace Sys2Proof.Machine

/-- A slot of the default plan: Slip 30, Guard on (R20). -/
def defaultSlot (function tool : Byte) (start excite listen : Half) : SlotRecord :=
  { function, tool, start, excite, listen, slip := 30, guard := 1 }

/-- The default plan (R20). -/
def defaultPlan : Plan :=
  #v[defaultSlot 1 0 100 150 150, defaultSlot 2 0 450 120 120, defaultSlot 3 0 740 120 120,
     defaultSlot 4 0 1030 120 120, defaultSlot 2 1 1320 120 120, defaultSlot 3 1 1610 120 120,
     defaultSlot 4 1 1900 120 120, defaultSlot 5 0 2190 0 150]

/-- The default profiles (R35). -/
def defaultProfiles : Vector Profile 4 :=
  #v[{ enabled := true, tipFreq := 560, ringFreq := 640, nominalZero := 100, phaseSpan := 400, ringHeight := 1280 },
     { enabled := true, tipFreq := 500, ringFreq := 700, nominalZero := 120, phaseSpan := 360, ringHeight := 1536 },
     { enabled := false, tipFreq := 600, ringFreq := 680, nominalZero := 100, phaseSpan := 400, ringHeight := 1280 },
     { enabled := false, tipFreq := 600, ringFreq := 680, nominalZero := 100, phaseSpan := 400, ringHeight := 1280 }]

/-- The default thresholds and knots (R78, R80). -/
def defaultPressure : Pressure :=
  { down := 164, up := 82, x1 := 2048, y1 := 2048, x2 := 4096, y2 := 4096, x3 := 6144, y3 := 6144 }

/-- The default Tracking item (R138). -/
def defaultTracking : Tracking :=
  { acquire := 400, hold := 200, fadeFrames := 4, missLimit := 8, deadband := 8, tiltLimit := 600 }

/-- A map row of nine zero offsets (R64). -/
def zeroRow : MapRow := Vector.replicate 9 ⟨0, 0⟩

/-- The shared settings after power-on and Cold Restart (R138). -/
def defaultSettings : Settings :=
  { xCount := 96, yCount := 60, timing := { framePeriod := 2500, syncMode := .free, syncRatio := 1 },
    profiles := defaultProfiles, pressure := defaultPressure, tracking := defaultTracking,
    map := Vector.replicate 7 zeroRow, combo := .none }

/-- No pending change (R140). -/
def noWaiting : Waiting :=
  { timing := none, profiles := Vector.replicate 4 none, pressure := none, tracking := none,
    map := Vector.replicate 7 none, combo := none }

/-- A VACANT tool record (R46). -/
def vacantTool : Tool :=
  { state := .vacant, profile := 0, raw := ⟨0, 0⟩, rawV := ⟨0, 0⟩, pos := none, vel := ⟨0, 0⟩, rep := none, n := 0,
    pressure := 0, phaseZero := 0, ring := none, tilt := ⟨0, 0⟩, tiltStale := false, tiltClamped := false,
    acceptedCode := none, codeCandidate := none, identity := none, identityStatus := .unknown,
    identityCandidate := none, assembly := none, stroke := 0, strokeOpen := false, confirmCount := 0, fadeCount := 0,
    missCount := 0, lastObs := 0, releaseMark := false }

/-- A snapshot after a restart (R111). -/
def vacantSnapshot : Snapshot :=
  { state := .vacant, profile := 0, rep := none, pressure := 0, tilt := ⟨0, 0⟩, tiltStale := false,
    tiltClamped := false, code := none, stroke := 0, strokeOpen := false, identityStatus := .unknown,
    identity := none, lastSeq := none, stamp := 0 }

/-- No observation for a tool. -/
def noObs : ToolObs := { track := none, tilt := none, code := none }

/-- The Scan Timing Unit at a restart, with the Active Plan and sync state the restart leaves (R170). -/
def restFrame (plan : Plan) (sync : SyncState) : Frame :=
  { phase := .stopped, timer := 0, midDone := false, count := 0, activePlan := plan, pendingPlan := none,
    outcomes := Vector.replicate 8 none, next := 8, run := .none, window := none, obs0 := noObs, obs1 := noObs,
    lastOutcomes := Vector.replicate 8 .idle, lastFrame := none, sync, syncTimer := none, noiseAxis := .x,
    noiseBand := 0, noiseFloor := 0 }

/-- The Search Cursor after a reset, on profile `i` (R38). -/
def sweepFrom (i : Fin 4) : SearchCursor :=
  { phase := .sweep, profile := i, band := 0, hitX := none, bestAmp := none, bestY := none }

/-- Mode Control after a restart: STARTING, no owner, nothing else (R148, R151, R158, R170). -/
def restControl : Control :=
  { mode := .starting, owner := none, reservation := none, survey := none, resumeDelay := 0, autoResume := none,
    capture := none }

/-- The default view with the area covering spans `xs` by `ys` (R114). -/
def defaultView (xs ys : Int) : View :=
  { kind := .grid, x0 := 0, x1 := xs, y0 := 0, y1 := ys, width := 3840, height := 2160, orientation := .deg0, lead := 0 }

/-- The default mask: TaskDone, SamplesWaiting, Overrun, ModeChanged, Restarted (R131, R181). -/
def defaultMask : BitVec 16 := 0x2807

/-- A port after power-on, its view covering the default grid (R170). -/
def defaultPort : PortState :=
  { cursor := 0, watermark := 8, view := defaultView 24320 15104, events := 0, mask := defaultMask, tickPoint := .off,
    tickPending := false, list0 := [], list1 := [], slot := .empty, store := .none, sent := [] }

/-- A key at power-on: RELEASED, no previous sample (R172). -/
def restKey : Key := { accepted := false, previous := none }

/-- The Key Monitor at power-on (R172, R173). -/
def restKeys : Keys :=
  { key0 := restKey, key1 := restKey, key2 := restKey, key3 := restKey, pace := 0, hold := .stopped }

end Sys2Proof.Machine
end

