-- ==== Sys2Proof/Machine/State.lean ====
section
/-! DEFINITION. The state of the part, the reasons a step can stop, and the state right after reset. -/

namespace Sys2Proof.Machine

/-- The state of the part: the queue of commands that wait, and what each block of the part holds. -/
structure State where
  /-- commands that wait, first in first out -/
  pending : List Instr
  /-- power, RESET_N, DRIVE_BUSY, start-up timer -/
  pins : Pins
  /-- Scan Timing Unit -/
  frame : Frame
  /-- Search Walk -/
  search : SearchCursor
  /-- Tool Table, T0 -/
  tool0 : Tool
  /-- Tool Table, T1 -/
  tool1 : Tool
  /-- Sample Ring, oldest first -/
  ring : List Sample
  /-- Seq of the next record -/
  nextSeq : BitVec 16
  /-- S-T0 -/
  snap0 : Snapshot
  /-- S-T1 -/
  snap1 : Snapshot
  /-- applied shared settings -/
  settings : Settings
  /-- pending changes of the shared settings -/
  waiting : Waiting
  /-- SettingsEpoch -/
  epoch : BitVec 16
  /-- Mode Control -/
  control : Control
  /-- Port Controller of the S-port -/
  portS : PortState
  /-- Port Controller of the D-port -/
  portD : PortState
  /-- Key Monitor -/
  keys : Keys
deriving DecidableEq, Repr

/-- Faults. The spec names none: every command has an effect, is ignored, or is refused with a
result code in its answer, so the type has no constructor and no step ends in a fault (safe). -/
inductive Fault where
deriving DecidableEq, Repr

/-- Refusals. -/
inductive Refusal where
  /-- Raised by an arm of exec whose command has no meaning yet; no arm is one (safe: the machine stops). -/
  | notModelled (mnemonic : String)
deriving DecidableEq, Repr

/-- The part at the instant a power-on restart begins, RESET_N high (R169, R170): STARTING, its
start-up timer at 0, every block at its power-on value, nothing in the queue. -/
def State.reset : State :=
  { pending := [], pins := { power := true, resetN := true, driveBusy := false, startup := some 0 },
    frame := restFrame defaultPlan .free, search := sweepFrom 0, tool0 := vacantTool, tool1 := vacantTool, ring := [],
    nextSeq := 0, snap0 := vacantSnapshot, snap1 := vacantSnapshot, settings := defaultSettings, waiting := noWaiting,
    epoch := 0, control := restControl, portS := defaultPort, portD := defaultPort, keys := restKeys }

end Sys2Proof.Machine
end

