-- ==== Sys2Proof/Machine/Flags.lean ====
section
/-! DEFINITION. The attention record, masks and ATN lines (chapter 8.5 to 8.7): the bits of an event set and what is raised at which port. -/

namespace Sys2Proof.Machine

/-! ## Ports of a state -/

/-- The state of one port. -/
def State.port (s : State) : Port → PortState
  | .s => s.portS
  | .d => s.portD

/-- A state with one port's state replaced. -/
def State.setPort (s : State) (p : Port) (ps : PortState) : State :=
  match p with
  | .s => { s with portS := ps }
  | .d => { s with portD := ps }

/-! ## Event sets -/

/-- The bit of an event (R181). -/
def Event.bit : Event → Nat
  | .taskDone => 0
  | .samplesWaiting => 1
  | .overrun => 2
  | .toolEnter => 3
  | .toolLeave => 4
  | .codeChange => 5
  | .identityKnown => 6
  | .keyChange => 7
  | .syncLost => 8
  | .syncRegained => 9
  | .settingsChanged => 10
  | .modeChanged => 11
  | .tickMissed => 12
  | .restarted => 13

/-- The set that holds one event. -/
def Event.set (e : Event) : BitVec 16 := 1#16 <<< e.bit

/-- An event is in a set. -/
def Event.isIn (e : Event) (events : BitVec 16) : Bool := events.getLsbD e.bit

/-- A set with one event added. -/
def Event.addTo (e : Event) (events : BitVec 16) : BitVec 16 := events ||| e.set

/-- The code-change list of a tool at a port (R94). -/
def PortState.list (ps : PortState) : ToolId → List (BitVec 4)
  | .t0 => ps.list0
  | .t1 => ps.list1

/-- CodeChange is pending while either list holds an entry (R95). -/
def PortState.codeChangePending (ps : PortState) : Bool := !(ps.list0.isEmpty && ps.list1.isEmpty)

/-- The pending set of a port with CodeChange in its bit (R95, R132). -/
def PortState.pendingEvents (ps : PortState) : BitVec 16 :=
  if ps.codeChangePending then Event.addTo .codeChange ps.events else ps.events

/-- The port asserts its attention line: an enabled event is pending or TickPending is set (R135). -/
def PortState.attention (ps : PortState) : Bool := (ps.pendingEvents &&& ps.mask) != 0 || ps.tickPending

/-- ATN_S_N or ATN_D_N is asserted; both are released in STARTING (R135, R171). -/
def State.attention (s : State) (p : Port) : Bool := s.control.mode != .starting && (s.port p).attention

/-! ## Raising -/

/-- Raises an event at a port. Nothing is recorded in STARTING (R130, R171). -/
def State.raise (s : State) (e : Event) (p : Port) : State :=
  if s.control.mode = .starting then s
  else s.setPort p { s.port p with events := e.addTo (s.port p).events }

/-- Raises an event at both ports. -/
def State.raiseBoth (s : State) (e : Event) : State := (s.raise e .s).raise e .d

/-- Raises an event at a port when a condition holds. -/
def State.raiseIf (s : State) (c : Bool) (e : Event) (p : Port) : State := if c then s.raise e p else s

/-- Raises an event at both ports when a condition holds. -/
def State.raiseBothIf (s : State) (c : Bool) (e : Event) : State := if c then s.raiseBoth e else s

/-- The tick point of a port falls (R133). -/
def State.tick (s : State) (point : TickPoint) (p : Port) : State :=
  if (s.port p).tickPoint = point then
    if (s.port p).tickPending then s.raise .tickMissed p
    else s.setPort p { s.port p with tickPending := true }
  else s

/-- A tick point falls at both ports (R133). -/
def State.tickBoth (s : State) (point : TickPoint) : State := (s.tick point .s).tick point .d

end Sys2Proof.Machine
end

