-- ==== Sys2Proof/Machine/Arith.lean ====
section
/-! DEFINITION. The arithmetic words of R1 over exact integers. -/

namespace Sys2Proof.Machine

/-- floor of a / b, for b above 0 (R1). -/
def floorDiv (a b : Int) : Int := a / b

/-- trunc of a / b: the fraction dropped toward zero (R1). -/
def truncDiv (a b : Int) : Int := Int.tdiv a b

/-- round of a / b, a half away from zero, for b above 0 (R1). -/
def roundDiv (a b : Int) : Int :=
  if 0 ≤ a then (2 * a + b) / (2 * b) else -((2 * -a + b) / (2 * b))

/-- clamp to lo..hi (R1). -/
def clamp (lo hi v : Int) : Int := if v < lo then lo else if hi < v then hi else v

/-- clamp of a natural number to lo..hi (R1). -/
def clampNat (lo hi v : Nat) : Nat := if v < lo then lo else if hi < v then hi else v

/-- The magnitude of v (R1). -/
def magnitude (v : Int) : Int := if v < 0 then -v else v

end Sys2Proof.Machine
end

