-- ==== Sys2Proof/Machine/Position.lean ====
section
/-! DEFINITION. The grid and the position arithmetic (chapters 1.1 and 4): spans, bands, peaks, the three-point rule, the correction map, the deadband, prediction. -/

namespace Sys2Proof.Machine

/-! ## The grid -/

/-- XSpan or YSpan of an axis of `count` coils (R2). -/
def span (count : Nat) : Int := ((count : Int) - 1) * Config.pitch

/-- XSpan of the grid in force (R2). -/
def Settings.xSpan (c : Settings) : Int := span c.xCount

/-- YSpan of the grid in force (R2). -/
def Settings.ySpan (c : Settings) : Int := span c.yCount

/-- Bands on an axis of `count` coils: ceil(count / 12) (R3). -/
def bands (count : Nat) : Nat := (count + 11) / Config.bandCoils

/-- Coils on an axis of the grid in force (R2). -/
def Settings.coils (c : Settings) : Axis → Nat
  | .x => c.xCount
  | .y => c.yCount

/-- The coils of band `b`, clipped at the last coil (R3). -/
def bandList (count b : Nat) : List Nat :=
  ((List.range Config.bandCoils).map (Config.bandCoils * b + ·)).filter (· < count)

/-- The nearest coil to a position: floor((pos + 128) / 256) (R4). -/
def nearestCoil (pos : Int) : Int := floorDiv (pos + 128) 256

/-- A window centre: the nearest coil, brought within 2..count − 3 (R55). -/
def windowCentre (count : Nat) (pos : Int) : Int := clamp 2 ((count : Int) - 3) (nearestCoil pos)

/-! ## Observed amplitudes -/

/-- Amplitudes saturate at 4095 (R4). -/
def saturate (a : Nat) : Nat := min a Config.maxAmplitude

/-- The five amplitudes of a window, from the first five channels of a bank (R5, log entry 5). -/
def windowAmps (bank : List Nat) : List Nat := (List.range 5).map fun i => saturate (bank.getD i 0)

/-- The twelve amplitudes of band `b`: a channel beyond the last coil reads 0 (R3). -/
def bandAmps (count b : Nat) (bank : List Nat) : List Nat :=
  (List.range Config.bandCoils).map fun c =>
    if Config.bandCoils * b + c < count then saturate (bank.getD c 0) else 0

/-! ## Peak and three-point rule -/

/-- The peak amplitude of a run of amplitudes (R59). -/
def peakAmp (amps : List Nat) : Nat := amps.foldl max 0

/-- The index of the peak: the lowest index that holds the largest amplitude (R59). -/
def peakIndex (amps : List Nat) : Nat := amps.findIdx (· == peakAmp amps)

/-- An edge peak stands on the outer position of its run (R60). -/
def edgePeak (amps : List Nat) : Bool := peakIndex amps == 0 || peakIndex amps + 1 == amps.length

/-- The sub-pitch offset of the three-point rule; 0 on an edge (R60, R61). -/
def peakOffset (amps : List Nat) : Int :=
  if edgePeak amps then 0
  else
    let m := peakIndex amps
    let l : Int := amps.getD (m - 1) 0
    let c : Int := amps.getD m 0
    let r : Int := amps.getD (m + 1) 0
    let denom := 2 * c - l - r
    if denom = 0 then 0 else clamp (-128) 128 (roundDiv (128 * (r - l)) denom)

/-- The raw position of a run of amplitudes whose first coil is `first`, on an axis of span `sp` (R62). -/
def rawPosition (first : Int) (amps : List Nat) (sp : Int) : Int :=
  clamp 0 sp ((first + peakIndex amps) * 256 + peakOffset amps)

/-- The raw position of a five-coil window centred on coil `centre` (R62). -/
def windowPosition (centre : Int) (amps : List Nat) (sp : Int) : Int := rawPosition (centre - 2) amps sp

/-- The raw position of the peak of band `b` (R40, R62). -/
def bandPosition (b : Nat) (amps : List Nat) (sp : Int) : Int := rawPosition (Config.bandCoils * b : Nat) amps sp

/-- The strength of a windowed observation: the smaller of its two peaks (R5). -/
def strength (xs ys : List Nat) : Nat := min (peakAmp xs) (peakAmp ys)

/-! ## Correction map -/

/-- The offsets of node (i, j) (R64). -/
def mapNode (map : Vector MapRow 7) (i j : Nat) : Pt := (map.toList.getD j zeroRow).toList.getD i ⟨0, 0⟩

/-- The cell index of a raw position on an axis with `cells` cells (R66). -/
def cellIndex (cells : Nat) (sp raw : Int) : Int := min (floorDiv (raw * cells) sp) ((cells : Int) - 1)

/-- The remainder r or s of a raw position within its cell, scaled (R66). -/
def cellRest (cells : Nat) (sp raw : Int) : Int := raw * cells - cellIndex cells sp raw * sp

/-- The weighted sum of the four node values of a cell (R67). -/
def blendSum (d00 d10 d01 d11 r s xs ys : Int) : Int :=
  d00 * (xs - r) * (ys - s) + d10 * r * (ys - s) + d01 * (xs - r) * s + d11 * r * s

/-- The map's offsets at a raw position (R66, R67). -/
def mapOffset (c : Settings) (raw : Pt) : Pt :=
  let i := (cellIndex 8 c.xSpan raw.x).toNat
  let j := (cellIndex 6 c.ySpan raw.y).toNat
  let r := cellRest 8 c.xSpan raw.x
  let s := cellRest 6 c.ySpan raw.y
  let n00 := mapNode c.map i j
  let n10 := mapNode c.map (i + 1) j
  let n01 := mapNode c.map i (j + 1)
  let n11 := mapNode c.map (i + 1) (j + 1)
  let whole := c.xSpan * c.ySpan
  { x := roundDiv (blendSum n00.x n10.x n01.x n11.x r s c.xSpan c.ySpan) whole,
    y := roundDiv (blendSum n00.y n10.y n01.y n11.y r s c.xSpan c.ySpan) whole }

/-- The corrected position (R68). -/
def corrected (c : Settings) (raw : Pt) : Pt :=
  let d := mapOffset c raw
  { x := clamp 0 c.xSpan (raw.x + d.x), y := clamp 0 c.ySpan (raw.y + d.y) }

/-! ## Velocity, deadband, prediction -/

/-- A velocity over `k` frames, truncated toward zero (R48). -/
def velocity (new old : Pt) (k : Nat) : Pt := { x := truncDiv (new.x - old.x) k, y := truncDiv (new.y - old.y) k }

/-- The deadband keeps the reported position: both differences are within it (R70). -/
def deadbandHolds (deadband : Nat) (pos rep : Pt) : Bool :=
  magnitude (pos.x - rep.x) ≤ deadband && magnitude (pos.y - rep.y) ≤ deadband

/-- The displacement of a prediction on one axis (R72). -/
def leadDelta (v : Int) (lead framePeriod : Nat) : Int :=
  clamp (-Config.maxPrediction) Config.maxPrediction (truncDiv (v * lead) framePeriod)

/-- The predicted position of a tool record as it stands: formed in HOVER and CONTACT, the reported
position in FADE, absent otherwise (R72, R73). -/
def predicted (c : Settings) (lead : Nat) (t : Tool) : Option Pt :=
  match t.state, t.rep with
  | .hover, some rep | .contact, some rep =>
    some { x := clamp 0 c.xSpan (rep.x + leadDelta t.vel.x lead c.timing.framePeriod),
           y := clamp 0 c.ySpan (rep.y + leadDelta t.vel.y lead c.timing.framePeriod) }
  | .fade, some rep => some rep
  | _, _ => none

end Sys2Proof.Machine
end

