-- ==== Sys2Proof/Machine/View.lean ====
section
/-! DEFINITION. The views (chapter 7.7): how a port maps positions and tilts. -/

namespace Sys2Proof.Machine

/-- A position mapped through a view, with its OutOfArea flag (R119). -/
structure Mapped where
  x : Int
  y : Int
  out : Bool
deriving DecidableEq, Repr

/-- A position in a GRID view (R116, R119). -/
def View.mapGrid (v : View) (c : Settings) (p : Pt) : Mapped :=
  let x := clamp 0 c.xSpan p.x
  let y := clamp 0 c.ySpan p.y
  { x, y, out := x != p.x || y != p.y || x < v.x0 || v.x1 < x || y < v.y0 || v.y1 < y }

/-- The pixel position of a point of the area, `a` and `b` from its corner (R117). -/
def View.pixel (v : View) (a b : Int) : Pt :=
  let ea := v.x1 - v.x0 + 1
  let eb := v.y1 - v.y0 + 1
  match v.orientation with
  | .deg0 => { x := floorDiv (a * v.width) ea, y := floorDiv (b * v.height) eb }
  | .deg90 => { x := floorDiv ((eb - 1 - b) * v.width) eb, y := floorDiv (a * v.height) ea }
  | .deg180 => { x := v.width - 1 - floorDiv (a * v.width) ea, y := v.height - 1 - floorDiv (b * v.height) eb }
  | .deg270 => { x := floorDiv (b * v.width) eb, y := floorDiv ((ea - 1 - a) * v.height) ea }

/-- A position in a DISPLAY view (R117, R119). -/
def View.mapDisplay (v : View) (p : Pt) : Mapped :=
  let x := clamp v.x0 v.x1 p.x
  let y := clamp v.y0 v.y1 p.y
  let px := v.pixel (x - v.x0) (y - v.y0)
  { x := px.x, y := px.y, out := x != p.x || y != p.y }

/-- A position mapped through a view, on the grid in force at the read (R116, R117). -/
def View.mapPos (v : View) (c : Settings) (p : Pt) : Mapped :=
  match v.kind with
  | .grid => v.mapGrid c p
  | .display => v.mapDisplay p

/-- A tilt turned with the view (R118). -/
def View.mapTilt (v : View) (t : Pt) : Pt :=
  match v.kind with
  | .grid => t
  | .display =>
    match v.orientation with
    | .deg0 => t
    | .deg90 => { x := -t.y, y := t.x }
    | .deg180 => { x := -t.x, y := -t.y }
    | .deg270 => { x := t.y, y := -t.x }

/-- A view whose area is brought within a new grid (R120). -/
def View.within (v : View) (xs ys : Int) : View :=
  let x1 := clamp 0 xs v.x1
  let y1 := clamp 0 ys v.y1
  { v with x1 := x1, x0 := clamp 0 (x1 - 1) v.x0, y1 := y1, y0 := clamp 0 (y1 - 1) v.y0 }

end Sys2Proof.Machine
end

