-- ==== Sys2Proof/Machine/Formats.lean ====
section
/-! DEFINITION. The bytes of answers and frames (chapter 13): numbers, named values, the sample record, the snapshot, slot records, items of the Settings Store. -/

namespace Sys2Proof.Machine

/-! ## Numbers (R178) -/

/-- A number in one byte. -/
def u8 (n : Nat) : List Byte := [BitVec.ofNat 8 n]

/-- A number in two bytes, most significant first. -/
def u16 (n : Nat) : List Byte := [BitVec.ofNat 8 (n / 256), BitVec.ofNat 8 n]

/-- A number in four bytes, most significant first. -/
def u32 (n : Nat) : List Byte :=
  [BitVec.ofNat 8 (n / 16777216), BitVec.ofNat 8 (n / 65536), BitVec.ofNat 8 (n / 256), BitVec.ofNat 8 n]

/-- A signed number in two bytes, two's complement. -/
def i16 (z : Int) : List Byte := u16 (BitVec.ofInt 16 z).toNat

/-- A flag in one byte. -/
def flag (b : Bool) : List Byte := u8 b.toNat

/-- The value of flag `b` at bit `i` of a packed byte. -/
def bitAt (i : Nat) (b : Bool) : Nat := b.toNat * 2 ^ i

/-- A port that may be absent: S-port 1, D-port 2, none 0 (R178). -/
def portByte : Option Port → List Byte
  | none => u8 0
  | some .s => u8 1
  | some .d => u8 2

/-! ## Named values (R177, R178) -/

/-- The byte of a result code (R125). -/
def ResultCode.num : ResultCode → Nat
  | .ok => 0
  | .taken => 1
  | .busy => 2
  | .rejected => 3
  | .locked => 4
  | .badValue => 5
  | .badLength => 6
  | .unknown => 7
  | .notOwner => 8
  | .aborted => 9
  | .timedOut => 10
  | .superseded => 11
  | .cancelled => 12

/-- The byte of a slot outcome (R177). -/
def SlotOutcome.num : SlotOutcome → Nat
  | .done => 0
  | .notNeeded => 1
  | .skipped => 2
  | .cut => 3
  | .truncated => 4
  | .idle => 5

/-- The byte of a mode (R181). -/
def Mode.num : Mode → Nat
  | .starting => 0
  | .scanning => 1
  | .holding => 2
  | .held => 3
  | .survey => 4

/-- The byte of a sync state (R181). -/
def SyncState.num : SyncState → Nat
  | .free => 0
  | .seeking => 1
  | .locked => 2

/-- The byte of a sync mode (R177). -/
def SyncMode.num : SyncMode → Nat
  | .free => 0
  | .locked => 1

/-- The byte of a tick point (R177). -/
def TickPoint.num : TickPoint → Nat
  | .off => 0
  | .frameStart => 1
  | .midFrame => 2

/-- The byte of a key combination (R177). -/
def KeyCombo.num : KeyCombo → Nat
  | .none => 0
  | .k01 => 1
  | .k012 => 2
  | .all => 3

/-- The byte of a survey kind (R177). -/
def SurveyKind.num : SurveyKind → Nat
  | .baseline => 0
  | .response => 1

/-- The byte of a task kind, in the order of R126. -/
def TaskKind.num : TaskKind → Nat
  | .setPlan => 0
  | .holdScan => 1
  | .coilSurvey => 2

/-- The byte of a tool state (R180). -/
def ToolState.num : ToolState → Nat
  | .vacant => 0
  | .acquire => 1
  | .hover => 2
  | .contact => 3
  | .fade => 4

/-- The byte of an identity status (R180). -/
def IdentityStatus.num : IdentityStatus → Nat
  | .unknown => 0
  | .partly => 1
  | .known => 2

/-- The byte of a record kind (R179). -/
def SampleKind.num : SampleKind → Nat
  | .motion => 0
  | .enter => 1
  | .strokeBegin => 2
  | .strokeEnd => 3
  | .leave => 4
  | .code => 5

/-- The byte of a tool number. -/
def toolNum : ToolId → Nat
  | .t0 => 0
  | .t1 => 1

/-- The byte of an axis, X first (R32). -/
def Axis.num : Axis → Nat
  | .x => 0
  | .y => 1

/-- The byte of a search phase, SWEEP first (R38). -/
def SearchPhase.num : SearchPhase → Nat
  | .sweep => 0
  | .locate => 1

/-! ## Records -/

/-- The nineteen bytes of a sample record through a view (R179). -/
def sampleBytes (c : Settings) (v : View) (r : Sample) : List Byte :=
  let m := v.mapPos c r.pos
  let t := v.mapTilt r.tilt
  u16 r.seq.toNat ++ u16 r.stamp.toNat ++ u8 r.kind.num ++ u8 (toolNum r.tool) ++ u8 r.code.toNat ++ i16 m.x ++ i16 m.y
    ++ u16 r.pressure ++ i16 t.x ++ i16 t.y ++ u8 r.stroke.toNat
    ++ u8 (bitAt 0 r.tiltStale + bitAt 1 r.tiltClamped + bitAt 2 r.edgeX + bitAt 3 r.edgeY + bitAt 4 r.held
        + bitAt 5 r.codeChanged + bitAt 6 m.out)

/-- The four bytes of a position that may be absent (R180). -/
def mappedBytes : Option Mapped → List Byte
  | some m => i16 m.x ++ i16 m.y
  | none => u16 0 ++ u16 0

/-- The OutOfArea flag of a position that may be absent (R180). -/
def mappedOut : Option Mapped → Bool
  | some m => m.out
  | none => false

/-- The twenty-nine bytes of a snapshot and its predicted position through a view (R113, R180). -/
def snapshotBytes (c : Settings) (v : View) (n : Snapshot) (pred : Option Pt) : List Byte :=
  let rep := n.rep.map (v.mapPos c)
  let pre := pred.map (v.mapPos c)
  let t := v.mapTilt n.tilt
  u8 n.state.num ++ u8 n.profile.val
    ++ u8 (bitAt 0 n.rep.isSome + bitAt 1 pred.isSome + bitAt 2 n.code.isSome + bitAt 3 n.identity.isSome
        + bitAt 4 n.lastSeq.isSome + bitAt 5 n.strokeOpen + bitAt 6 n.tiltStale + bitAt 7 n.tiltClamped)
    ++ mappedBytes rep ++ mappedBytes pre ++ u16 n.pressure ++ i16 t.x ++ i16 t.y ++ u8 (n.code.getD 0).toNat
    ++ u8 n.stroke.toNat ++ u8 n.identityStatus.num ++ u32 (n.identity.getD 0).toNat ++ u16 (n.lastSeq.getD 0).toNat
    ++ u16 n.stamp.toNat ++ u8 (bitAt 0 (mappedOut rep) + bitAt 1 (mappedOut pre))

/-- The eighty-eight bytes of a plan, S0 first (R176). -/
def planBytes (p : Plan) : List Byte := p.toList.flatMap SlotRecord.bytes

/-! ## Items of the Settings Store (R138, R147, log entry 9) -/

/-- The Grid item. -/
def gridBytes (c : Settings) : List Byte := u8 c.xCount ++ u8 c.yCount

/-- The Timing item. -/
def timingBytes (t : Timing) : List Byte := u16 t.framePeriod ++ u8 t.syncMode.num ++ u8 t.syncRatio

/-- A profile's six fields. -/
def profileBytes (f : Profile) : List Byte :=
  flag f.enabled ++ u16 f.tipFreq ++ u16 f.ringFreq ++ u16 f.nominalZero ++ u16 f.phaseSpan ++ u16 f.ringHeight

/-- The Pressure item. -/
def pressureBytes (k : Pressure) : List Byte :=
  u16 k.down ++ u16 k.up ++ u16 k.x1 ++ u16 k.y1 ++ u16 k.x2 ++ u16 k.y2 ++ u16 k.x3 ++ u16 k.y3

/-- The Tracking item. -/
def trackingBytes (k : Tracking) : List Byte :=
  u16 k.acquire ++ u16 k.hold ++ u8 k.fadeFrames ++ u8 k.missLimit ++ u8 k.deadband ++ u16 k.tiltLimit

/-- A map row: nine (dx, dy) pairs in order of i. -/
def rowBytes (r : MapRow) : List Byte := r.toList.flatMap fun d => i16 d.x ++ i16 d.y

/-- Whether a change of an item is pending, and the port that took it (R147). -/
def waitingBytes {α : Type} (w : Option (Change α)) : List Byte := flag w.isSome ++ portByte (w.map (·.port))

/-! ## The response frame (R178) -/

/-- The five bytes before a payload: status, echoed code, result, payload length; then the payload. -/
def frameBytes (status : Nat) (code : Byte) (result : Nat) (payload : List Byte) : List Byte :=
  u8 status ++ [code] ++ u8 result ++ u16 payload.length ++ payload

/-- The frame of a READY answer. -/
def answerFrame (a : Answer) : List Byte := frameBytes 4 a.code a.result.num a.payload

end Sys2Proof.Machine
end

