-- ==== Sys2Proof/Machine/Operands.lean ====
section
/-! DEFINITION. The argument checks of the requests: named values (R162, R177), ranges and clamps (R139), slot records and plan validity (R18, R19, R176), the items of the Settings Store, the view. None means BAD_VALUE. -/

namespace Sys2Proof.Machine

/-! ## Named values (R162, R177) -/

/-- A flag: 0 or 1. -/
def flagOf (b : Byte) : Option Bool := if b = 0 then some false else if b = 1 then some true else none

/-- A tick point. -/
def tickPointOf (b : Byte) : Option TickPoint :=
  if b = 0 then some .off else if b = 1 then some .frameStart else if b = 2 then some .midFrame else none

/-- A ViewKind. -/
def viewKindOf (b : Byte) : Option ViewKind := if b = 0 then some .grid else if b = 1 then some .display else none

/-- An Orientation, sent as its index. -/
def orientationOf (b : Byte) : Option Orientation :=
  if b = 0 then some .deg0 else if b = 1 then some .deg90 else if b = 2 then some .deg180 else if b = 3 then some .deg270
  else none

/-- A SyncMode. -/
def syncModeOf (b : Byte) : Option SyncMode := if b = 0 then some .free else if b = 1 then some .locked else none

/-- A Kind of a Coil Survey. -/
def surveyKindOf (b : Byte) : Option SurveyKind :=
  if b = 0 then some .baseline else if b = 1 then some .response else none

/-- A KeyRestartCombo. -/
def keyComboOf (b : Byte) : Option KeyCombo :=
  if b = 0 then some .none else if b = 1 then some .k01 else if b = 2 then some .k012 else if b = 3 then some .all
  else none

/-- An index below n. -/
def indexOf (n : Nat) (b : Byte) : Option (Fin n) := if h : b.toNat < n then some ⟨b.toNat, h⟩ else none

/-- v lies in lo..hi. -/
def within (lo hi v : Nat) : Bool := lo ≤ v && v ≤ hi

/-! ## Slot records and plans -/

/-- The function a slot record names; none for a byte that names none (R177). -/
def functionOf (r : SlotRecord) : Option SlotFunction :=
  if r.function = 0 then some .idle else if r.function = 1 then some .search else if r.function = 2 then some .track
  else if r.function = 3 then some .tilt else if r.function = 4 then some .code else if r.function = 5 then some .noise
  else none

/-- An IDLE slot record (R18). -/
def isIdle (r : SlotRecord) : Bool := r.function == 0

/-- The tool record a slot record names (R18). -/
def slotTool (r : SlotRecord) : ToolId := if r.tool = 0 then .t0 else .t1

/-- Start + Slip + Excite + Listen (R18). -/
def reservedEnd (r : SlotRecord) : Nat := r.start.toNat + r.slip.toNat + r.excite.toNat + r.listen.toNat

/-- The fields of a non-IDLE slot record are in their ranges (R18, R19, R176). -/
def slotValid (r : SlotRecord) : Bool :=
  match functionOf r with
  | none => false
  | some f =>
    within 0 10000 r.start.toNat && within 10 400 r.listen.toNat && within 0 500 r.slip.toNat && (flagOf r.guard).isSome
      && (match f with
        | .noise => r.excite == 0
        | _ => within 10 400 r.excite.toNat)
      && (match f with
        | .track | .tilt | .code => r.tool == 0 || r.tool == 1
        | _ => true)

/-- The non-IDLE slot records of a plan, in index order. -/
def activeSlots (p : Plan) : List SlotRecord := p.toList.filter fun r => !isIdle r

/-- Starts strictly increase and each reserved end is at most the next Start (R19). -/
def slotsOrdered : List SlotRecord → Bool
  | a :: b :: rest => decide (a.start.toNat < b.start.toNat) && decide (reservedEnd a ≤ b.start.toNat) && slotsOrdered (b :: rest)
  | _ => true

/-- The reserved end of the last non-IDLE slot is at most FramePeriod − 100 (R19, R144). -/
def planFits (framePeriod : Nat) (p : Plan) : Bool :=
  match (activeSlots p).getLast? with
  | some r => reservedEnd r + Config.planMargin ≤ framePeriod
  | none => true

/-- A valid plan for a FramePeriod (R19). -/
def planValid (framePeriod : Nat) (p : Plan) : Bool :=
  !(activeSlots p).isEmpty && (activeSlots p).all slotValid && slotsOrdered (activeSlots p) && planFits framePeriod p

/-! ## Items of the Settings Store (R139) -/

/-- The counts of a Set Grid (R145). -/
def gridOf (x y : Byte) : Option (Nat × Nat) :=
  if within 16 96 x.toNat && within 16 60 y.toNat then some (x.toNat, y.toNat) else none

/-- The Timing item of a Set Timing (R144). -/
def timingOf (framePeriod : Half) (mode ratio : Byte) : Option Timing :=
  match syncModeOf mode with
  | some m =>
    if within 1500 10000 framePeriod.toNat && within 1 4 ratio.toNat then
      some { framePeriod := framePeriod.toNat, syncMode := m, syncRatio := ratio.toNat }
    else none
  | none => none

/-- The profile of a Set Profile (R36). -/
def profileOf (a : ProfileArgs) : Option Profile :=
  match flagOf a.enabled with
  | some en =>
    if within 300 900 a.tipFreq.toNat && within 300 900 a.ringFreq.toNat && a.ringFreq != a.tipFreq
        && within 0 1023 a.nominalZero.toNat && within 64 1023 a.phaseSpan.toNat && within 256 4096 a.ringHeight.toNat then
      some { enabled := en, tipFreq := a.tipFreq.toNat, ringFreq := a.ringFreq.toNat, nominalZero := a.nominalZero.toNat,
             phaseSpan := a.phaseSpan.toNat, ringHeight := a.ringHeight.toNat }
    else none
  | none => none

/-- The chains thresholds and knots must keep (R78, R80). -/
def pressureValid (k : Pressure) : Bool :=
  decide (k.up < k.down) && decide (k.down ≤ 8191) && decide (0 < k.x1) && decide (k.x1 < k.x2) && decide (k.x2 < k.x3)
    && decide (k.x3 < 8191) && decide (k.y1 ≤ k.y2) && decide (k.y2 ≤ k.y3) && decide (k.y3 ≤ 8191)

/-- The Pressure item of a Set Pressure (R78, R80). -/
def pressureOf (a : PressureArgs) : Option Pressure :=
  let k : Pressure :=
    { down := a.down.toNat, up := a.up.toNat, x1 := a.x1.toNat, y1 := a.y1.toNat, x2 := a.x2.toNat, y2 := a.y2.toNat,
      x3 := a.x3.toNat, y3 := a.y3.toNat }
  if pressureValid k then some k else none

/-- The Tracking item of a Set Tracking, clamped (R139). -/
def trackingOf (a : TrackingArgs) : Option Tracking :=
  let k : Tracking :=
    { acquire := clampNat 0 4095 a.acquire.toNat, hold := clampNat 0 4095 a.hold.toNat,
      fadeFrames := clampNat 1 16 a.fadeFrames.toNat, missLimit := clampNat 2 32 a.missLimit.toNat,
      deadband := clampNat 0 64 a.deadband.toNat, tiltLimit := clampNat 0 900 a.tiltLimit.toNat }
  if k.hold ≤ k.acquire then some k else none

/-- One node of a Set Map Row, clamped to −512..+511 (R146). -/
def nodeOf (a : NodeArgs) : Pt := { x := clamp (-512) 511 a.dx.toInt, y := clamp (-512) 511 a.dy.toInt }

/-- The row of a Set Map Row, clamped (R146). -/
def mapRowOf (v : Vector NodeArgs 9) : MapRow :=
  #v[nodeOf v[0], nodeOf v[1], nodeOf v[2], nodeOf v[3], nodeOf v[4], nodeOf v[5], nodeOf v[6], nodeOf v[7], nodeOf v[8]]

/-! ## Per-port values -/

/-- The view of a Set View, checked and clamped against the grid in force (R115). -/
def viewOf (c : Settings) (a : ViewArgs) : Option View :=
  match viewKindOf a.viewKind, orientationOf a.orientation with
  | some kind, some orientation =>
    if within 1 8192 a.width.toNat && within 1 8192 a.height.toNat then
      let v : View :=
        { kind, x0 := clamp 0 c.xSpan a.x0.toNat, x1 := clamp 0 c.xSpan a.x1.toNat, y0 := clamp 0 c.ySpan a.y0.toNat,
          y1 := clamp 0 c.ySpan a.y1.toNat, width := a.width.toNat, height := a.height.toNat, orientation,
          lead := clampNat 0 20000 a.lead.toNat }
      if v.x0 < v.x1 ∧ v.y0 < v.y1 then some v else none
    else none
  | _, _ => none

/-- The mask of a Set Attention Mask: bits 14 and 15 name no event; Restarted is forced on (R131, R162, R181). -/
def maskOf (m : Half) : Option (BitVec 16) := if m.toNat < 16384 then some (m ||| 0x2000) else none

end Sys2Proof.Machine
end

