-- ==== Sys2Proof/Machine/Code.lean ====
section
/-! DEFINITION. Pen code and identity (chapter 6): validity, debounce, identity assembly, change lists. -/

namespace Sys2Proof.Machine

/-- The parity of a status code is good: an even number of its four bits are set (R90). -/
def goodParity (c : BitVec 4) : Bool := !((c.getLsbD 0).xor ((c.getLsbD 1).xor ((c.getLsbD 2).xor (c.getLsbD 3))))

/-- The symbol of a valid CODE observation; none when it is missing or invalid (R90). -/
def validSymbol (effHold : Nat) (o : Option CodeObs) : Option Symbol :=
  match o with
  | some o => if effHold ≤ o.amplitude ∧ goodParity o.symbol.code then some o.symbol else none
  | none => none

/-- The code that this observation accepts: a valid code equal to the candidate (R92). -/
def acceptedBy (t : Tool) (v : Option Symbol) : Option (BitVec 4) :=
  match v with
  | some y => if t.codeCandidate = some y.code then some y.code else none
  | none => none

/-- The new accepted code when the acceptance is a change (R93). -/
def codeChangeOf (t : Tool) (v : Option Symbol) : Option (BitVec 4) :=
  match acceptedBy t v with
  | some c => if t.acceptedCode = some c then none else some c
  | none => none

/-- The debounce (R92). -/
def Tool.debounce (t : Tool) (v : Option Symbol) : Tool :=
  { t with
    codeCandidate := v.map (·.code)
    acceptedCode := match acceptedBy t v with
      | some c => some c
      | none => t.acceptedCode }

/-- The identity assembly after the observation (R97). -/
def assemblyAfter (a : Option (List Bool)) (v : Option Symbol) : Option (List Bool) :=
  match v with
  | none => none
  | some y =>
    if y.marker then some [y.bit]
    else
      match a with
      | none => none
      | some bits => if bits.length < 32 then some (bits ++ [y.bit]) else some bits

/-- The value of a whole cycle, first bit most significant (R97). -/
def bitsValue (bits : List Bool) : BitVec 32 := BitVec.ofNat 32 (bits.foldl (fun acc b => 2 * acc + b.toNat) 0)

/-- The value that completes at this code step: an append has just brought the assembly to 32 bits (R97). -/
def completedCycle (a : Option (List Bool)) (v : Option Symbol) : Option (BitVec 32) :=
  match v, a with
  | some y, some bits => if !y.marker && bits.length == 31 then some (bitsValue (bits ++ [y.bit])) else none
  | _, _ => none

/-- The identity fields after a completed cycle of value `v` (R98). -/
def Tool.identityCycle (t : Tool) (v : BitVec 32) : Tool :=
  match t.identityStatus with
  | .unknown => { t with identityStatus := .partly, identityCandidate := some v, identity := none }
  | .partly =>
    if t.identityCandidate = some v then { t with identityStatus := .known, identityCandidate := some v, identity := some v }
    else { t with identityStatus := .partly, identityCandidate := some v, identity := none }
  | .known =>
    if t.identity = some v then t
    else { t with identityStatus := .partly, identityCandidate := some v, identity := none }

/-- The identity part of the code step (R97, R98). -/
def Tool.identityStep (t : Tool) (v : Option Symbol) : Tool :=
  let t1 := { t with assembly := assemblyAfter t.assembly v }
  match completedCycle t.assembly v with
  | some value => t1.identityCycle value
  | none => t1

/-- The whole code step on the record (R91). -/
def Tool.codeStep (t : Tool) (v : Option Symbol) : Tool := (t.debounce v).identityStep v

/-- IdentityKnown is raised: a completed cycle made the status KNOWN from another (R99). -/
def becameKnown (before after : Tool) : Bool := before.identityStatus != .known && after.identityStatus == .known

/-- A change list after code `c` enters it (R94). -/
def enterChange (l : List (BitVec 4)) (c : BitVec 4) : List (BitVec 4) :=
  match l with
  | [] => [c]
  | a :: _ => [a, c]

end Sys2Proof.Machine
end

