-- ==== Sys2Proof/Machine/PressureTilt.lean ====
section
/-! DEFINITION. Pressure and tilt arithmetic (chapter 5). -/

namespace Sys2Proof.Machine

/-- The signed offset pr of phase `p` from PhaseZero `z`, in −512..511 (R75). -/
def signedOffset (p z : Nat) : Int :=
  let d : Int := (p : Int) - z
  if 511 < d then d - 1024 else if d < -512 then d + 1024 else d

/-- The normalised tip value n (R76). -/
def normalised (pr : Int) (phaseSpan : Nat) : Nat :=
  ((clamp 0 phaseSpan pr).toNat * Config.fullScale + phaseSpan / 2) / phaseSpan

/-- PhaseZero after an adaptation by `pr`, when |pr| is at most 32; unchanged otherwise (R77). -/
def adapted (z : Nat) (pr : Int) : Nat :=
  if magnitude pr ≤ Config.adaptLimit then (((z : Int) + truncDiv pr 8) % 1024).toNat else z

/-- One segment of the curve, from (xa, ya) to (xb, yb) (R81). -/
def segment (n xa ya xb yb : Nat) : Nat := ya + (n - xa) * (yb - ya) / (xb - xa)

/-- The pressure curve at n (R81). -/
def curve (k : Pressure) (n : Nat) : Nat :=
  if n < k.x1 then segment n 0 0 k.x1 k.y1
  else if n < k.x2 then segment n k.x1 k.y1 k.x2 k.y2
  else if n < k.x3 then segment n k.x2 k.y2 k.x3 k.y3
  else segment n k.x3 k.y3 Config.fullScale Config.fullScale

/-- The reported pressure of a tool after its transition (R82). -/
def reportedPressure (k : Pressure) (state : ToolState) (n : Nat) : Nat :=
  match state with
  | .contact => curve k n
  | .vacant | .acquire | .hover | .fade => 0

/-- The arcsine table T[0] to T[32] (R85). -/
def arcsine : List Int :=
  [0, 18, 36, 54, 72, 90, 108, 126, 145, 163, 182, 201, 220, 240, 259, 280, 300, 321, 342, 364, 387, 410, 434, 460,
   486, 514, 543, 575, 610, 650, 696, 756, 900]

/-- q, the sine of the lean scaled to 256 (R84). -/
def leanSine (d : Int) (ringHeight : Nat) : Int := clamp (-256) 256 (truncDiv (d * 256) ringHeight)

/-- The magnitude of the angle for |q| = q (R85). -/
def leanMagnitude (q : Nat) : Int :=
  let k := q / 8
  let f := q % 8
  if k < 32 then arcsine.getD k 0 + floorDiv ((arcsine.getD (k + 1) 0 - arcsine.getD k 0) * f) 8 else arcsine.getD 32 0

/-- The angle on one axis for displacement `d` (R84, R85). -/
def leanAngle (d : Int) (ringHeight : Nat) : Int :=
  let a := leanMagnitude (leanSine d ringHeight).natAbs
  if d < 0 then -a else a

/-- The fresh tilt from the ring and tip raw positions, before the limit (R84, R85). -/
def freshTilt (ringRaw tip : Pt) (ringHeight : Nat) : Pt :=
  { x := leanAngle (ringRaw.x - tip.x) ringHeight, y := leanAngle (ringRaw.y - tip.y) ringHeight }

/-- A tilt brought within ±TiltLimit (R86, R87). -/
def limitTilt (limit : Nat) (tilt : Pt) : Pt :=
  { x := clamp (-(limit : Int)) limit tilt.x, y := clamp (-(limit : Int)) limit tilt.y }

/-- A tool with a fresh tilt, limited (R83, R86). -/
def Tool.withFreshTilt (t : Tool) (limit : Nat) (fresh : Pt) : Tool :=
  { t with tilt := limitTilt limit fresh, tiltStale := false, tiltClamped := limitTilt limit fresh != fresh }

/-- A tool whose held angles are brought within the limit: TiltClamped becomes true when that
changed either axis and keeps its value otherwise (R87, R89). -/
def Tool.clampHeldTilt (t : Tool) (limit : Nat) : Tool :=
  { t with tilt := limitTilt limit t.tilt, tiltClamped := t.tiltClamped || limitTilt limit t.tilt != t.tilt }

/-- A tool whose tilt is held in this frame (R87). -/
def Tool.withHeldTilt (t : Tool) (limit : Nat) : Tool := { t.clampHeldTilt limit with tiltStale := true }

end Sys2Proof.Machine
end

