-- ==== Sys2Proof/Machine/Track.lean ====
section
/-! DEFINITION. The Track Engine: the frame end for one tool (chapters 3.4 to 3.7), from its record and the frame's observations to its new record and at most one sample record. -/

namespace Sys2Proof.Machine

/-- What a tool's frame end reads besides its record: the settings in force, EffHold, FrameCount, the
frame's observations for the tool, whether every TRACK slot for it ended NOT_NEEDED (or there is
none), and whether this frame end enters HELD. -/
structure TrackEnv where
  settings : Settings
  effHold : Nat
  count : BitVec 32
  obs : ToolObs
  trackUnneeded : Bool
  entersHeld : Bool
deriving DecidableEq, Repr

/-- The frame as the TRACK observation classifies it (R47). -/
inductive FrameClass where
  | exempt
  | missing
  | weak
  | strong (o : TrackObs)
deriving DecidableEq, Repr

/-- The record a transition calls for (R50 to R54). -/
inductive RecordMark where
  | none
  | kind (k : SampleKind)
  | motionOrCode
deriving DecidableEq, Repr

/-- The kind and the flags of the record a tool writes that are not fields of its tool record (R54). -/
structure Draft where
  kind : SampleKind
  edgeX : Bool
  edgeY : Bool
  held : Bool
  codeChanged : Bool
deriving DecidableEq, Repr

/-- What a tool's frame end leaves: its record (State VACANT when it departs, with the last values
the record and snapshot of this frame end still report), its sample record, the change of its
accepted code, and whether its identity became KNOWN. -/
structure ToolEnd where
  tool : Tool
  draft : Option Draft
  change : Option (BitVec 4)
  known : Bool
deriving DecidableEq, Repr

/-- A tool that becomes VACANT: silently from ACQUIRE, with LEAVE otherwise (R49, R53, R54, R56,
R57). The LEAVE clamps the held tilt (R89) and closes an open stroke. -/
def departure (limit : Nat) (t : Tool) : ToolEnd :=
  if t.state = .acquire then { tool := vacantTool, draft := none, change := none, known := false }
  else
    { tool := { t.clampHeldTilt limit with state := .vacant, pressure := 0, strokeOpen := false },
      draft := some { kind := .leave, edgeX := false, edgeY := false, held := false, codeChanged := false },
      change := none, known := false }

/-- The classification of a frame for a tool (R47). The frame of a tool's placement is the one whose
FrameCount is the tool's LastObsFrame (R43, log entry 15). -/
def classify (e : TrackEnv) (t : Tool) : FrameClass :=
  match e.obs.track with
  | some o => if strength o.xs o.ys < e.effHold then .weak else .strong o
  | none => if t.lastObs = e.count ∧ e.trackUnneeded then .exempt else .missing

/-- The raw position of a TRACK observation (R62). -/
def trackRaw (c : Settings) (o : TrackObs) : Pt :=
  { x := windowPosition o.cx o.xs c.xSpan, y := windowPosition o.cy o.ys c.ySpan }

/-- The raw position of a TILT observation (R62). -/
def tiltRaw (c : Settings) (o : TiltObs) : Pt :=
  { x := windowPosition o.cx o.xs c.xSpan, y := windowPosition o.cy o.ys c.ySpan }

/-- The deadband of this strong frame keeps the tool's reported position (R70). -/
def heldBy (e : TrackEnv) (t : Tool) (o : TrackObs) : Bool :=
  match t.rep with
  | some rep => t.state != .acquire && deadbandHolds e.settings.tracking.deadband (corrected e.settings (trackRaw e.settings o)) rep
  | none => false

/-- pr of this strong frame (R75). -/
def offsetOf (t : Tool) (o : TrackObs) : Int := signedOffset o.phase t.phaseZero

/-- The update of a strong frame (R48). In ACQUIRE only the raw and corrected position and
LastObsFrame change. -/
def positionUpdate (e : TrackEnv) (t : Tool) (o : TrackObs) : Tool :=
  let raw := trackRaw e.settings o
  let pos := corrected e.settings raw
  if t.state = .acquire then { t with raw := raw, pos := some pos, lastObs := e.count }
  else
    let k := (e.count - t.lastObs).toNat
    { t with
      raw := raw
      rawV := velocity raw t.raw k
      pos := some pos
      vel := velocity pos (t.pos.getD pos) k
      rep := if heldBy e t o then t.rep else some pos
      n := normalised (offsetOf t o) e.settings.profiles[t.profile].phaseSpan
      lastObs := e.count }

/-- A tool that stays in or returns to HOVER with its stroke closed, and PhaseZero adapted (R77). -/
def Tool.hovering (t : Tool) (pr : Int) : Tool := { t with state := .hover, phaseZero := adapted t.phaseZero pr }

/-- A tool that opens a stroke (R51, R53). -/
def Tool.strokeBegun (t : Tool) : Tool := { t with state := .contact, stroke := t.stroke + 1, strokeOpen := true }

/-- A tool that closes its stroke with STROKE_END (R52, R53). -/
def Tool.strokeEnded (t : Tool) : Tool := { t with state := .hover, strokeOpen := false }

/-- A tool that enters HOVER from ACQUIRE (R50). -/
def Tool.entered (t : Tool) (c : Settings) : Tool :=
  { t with
    state := .hover
    confirmCount := Config.confirmFrames
    rawV := ⟨0, 0⟩
    vel := ⟨0, 0⟩
    phaseZero := c.profiles[t.profile].nominalZero
    rep := t.pos
    strokeOpen := false
    fadeCount := 0 }

/-- The transition of a strong frame, on the record that R48 has updated (R50 to R53); `pr` is the
frame's signed offset. -/
def strongTransition (c : Settings) (pr : Int) (t : Tool) : Tool × RecordMark :=
  match t.state with
  | .vacant => (t, .none)
  | .acquire =>
    if t.confirmCount + 1 < Config.confirmFrames then ({ t with confirmCount := t.confirmCount + 1 }, .none)
    else (t.entered c, .kind .enter)
  | .hover =>
    if c.pressure.down ≤ t.n then (t.strokeBegun, .kind .strokeBegin) else (t.hovering pr, .motionOrCode)
  | .contact => if t.n < c.pressure.up then (t.strokeEnded, .kind .strokeEnd) else (t, .motionOrCode)
  | .fade =>
    let t := { t with fadeCount := 0 }
    if t.strokeOpen then
      if c.pressure.up ≤ t.n then ({ t with state := .contact }, .motionOrCode) else (t.strokeEnded, .kind .strokeEnd)
    else if c.pressure.down ≤ t.n then (t.strokeBegun, .kind .strokeBegin)
    else (t.hovering pr, .motionOrCode)

/-- The strong TILT observation of the frame (R55, R88). -/
def strongTilt (e : TrackEnv) : Option TiltObs :=
  match e.obs.tilt with
  | some o => if strength o.xs o.ys < e.effHold then none else some o
  | none => none

/-- The tilt step (R83 to R88); `strong` says that the frame's TRACK observation is strong. -/
def tiltStep (e : TrackEnv) (strong : Bool) (t : Tool) : Tool :=
  match strongTilt e with
  | none => t.withHeldTilt e.settings.tracking.tiltLimit
  | some o =>
    let ringRaw := tiltRaw e.settings o
    let t := { t with ring := some ringRaw }
    if strong && !edgePeak o.xs && !edgePeak o.ys then
      t.withFreshTilt e.settings.tracking.tiltLimit (freshTilt ringRaw t.raw e.settings.profiles[t.profile].ringHeight)
    else t.withHeldTilt e.settings.tracking.tiltLimit

/-- The steps after the transition of a tool that stays: the tilt step, the code step, the reported
pressure, the record. A tool in ACQUIRE has none of them (R47, R74, R82, R91). -/
def afterTransition (e : TrackEnv) (track : Option TrackObs) (held : Bool) (t : Tool) (mark : RecordMark) : ToolEnd :=
  if t.state = .acquire then
    { tool := { t with pressure := 0 }, draft := none, change := none, known := false }
  else
    let v := validSymbol e.effHold e.obs.code
    let t1 := tiltStep e track.isSome t
    let t2 := t1.codeStep v
    let change := codeChangeOf t1 v
    let draftOf (k : SampleKind) : Draft :=
      { kind := k, edgeX := (track.map fun o => edgePeak o.xs).getD false,
        edgeY := (track.map fun o => edgePeak o.ys).getD false, held, codeChanged := change.isSome }
    { tool := { t2 with pressure := reportedPressure e.settings.pressure t2.state t2.n },
      draft := match mark with
        | .none => none
        | .kind k => some (draftOf k)
        | .motionOrCode => some (draftOf (if change.isSome then .code else .motion)),
      change, known := becameKnown t1 t2 }

/-- A missing frame (R49). -/
def missingEnd (e : TrackEnv) (t : Tool) : ToolEnd :=
  let t := { t with missCount := t.missCount + 1 }
  if e.settings.tracking.missLimit ≤ t.missCount then departure e.settings.tracking.tiltLimit t
  else afterTransition e none false t .none

/-- FadeCount after a weak frame: 1 at the entry to FADE, one more in FADE (R51 to R53). -/
def fadeCountAfter (t : Tool) : Nat := if t.state = .fade then t.fadeCount + 1 else 1

/-- A weak frame (R49 to R53). -/
def weakEnd (e : TrackEnv) (t : Tool) : ToolEnd :=
  let t := { t with missCount := 0, fadeCount := fadeCountAfter t }
  if t.state = .acquire ∨ e.settings.tracking.fadeFrames ≤ t.fadeCount then departure e.settings.tracking.tiltLimit t
  else afterTransition e none false { t with state := .fade } .none

/-- A strong frame (R48 to R53). -/
def strongEnd (e : TrackEnv) (t : Tool) (o : TrackObs) : ToolEnd :=
  let u := positionUpdate e { t with missCount := 0 } o
  let r := strongTransition e.settings (offsetOf t o) u
  afterTransition e (some o) (heldBy e t o) r.1 r.2

/-- The frame end for one tool (R47). A release mark or the entry to HELD settles it before anything
else (R56, R57); a VACANT record is passed over. -/
def toolFrameEnd (e : TrackEnv) (t : Tool) : ToolEnd :=
  if t.state = .vacant then { tool := vacantTool, draft := none, change := none, known := false }
  else if t.releaseMark ∨ e.entersHeld then departure e.settings.tracking.tiltLimit t
  else
    match classify e t with
    | .exempt => { tool := t, draft := none, change := none, known := false }
    | .missing => missingEnd e t
    | .weak => weakEnd e t
    | .strong o => strongEnd e t o

/-- The record after the frame end is complete: a departing tool takes the VACANT values (R46). -/
def ToolEnd.record (r : ToolEnd) : Tool := if r.tool.state = .vacant then vacantTool else r.tool

/-- The snapshot of a tool after a frame end (R112); `seq` is the Seq of the record it wrote. -/
def snapshotOf (t : Tool) (old : Snapshot) (seq : Option (BitVec 16)) (stamp : BitVec 16) : Snapshot :=
  { state := t.state, profile := t.profile, rep := t.rep, pressure := t.pressure, tilt := t.tilt,
    tiltStale := t.tiltStale, tiltClamped := t.tiltClamped, code := t.acceptedCode, stroke := t.stroke,
    strokeOpen := t.strokeOpen, identityStatus := t.identityStatus,
    identity := if t.identityStatus = .known then t.identity else none,
    lastSeq := match seq with
      | some q => some q
      | none => old.lastSeq,
    stamp }

/-- The sample record a tool writes, before it takes its Seq (R101, R102). -/
def sampleOf (id : ToolId) (stamp : BitVec 16) (t : Tool) (d : Draft) : Sample :=
  { seq := 0, stamp, kind := d.kind, tool := id, code := t.acceptedCode.getD 0, pos := t.rep.getD ⟨0, 0⟩,
    pressure := t.pressure, tilt := t.tilt, stroke := t.stroke, tiltStale := t.tiltStale,
    tiltClamped := t.tiltClamped, edgeX := d.edgeX, edgeY := d.edgeY, held := d.held, codeChanged := d.codeChanged }

end Sys2Proof.Machine
end

