-- ==== Sys2Proof/Machine/Ops.lean ====
section
/-! DEFINITION. The shared operations on the state: tools, answers, tasks, time, effective levels, the Search Cursor's reset, modes. -/

namespace Sys2Proof.Machine

/-! ## Access -/

/-- A tool record. -/
def State.tool (s : State) : ToolId → Tool
  | .t0 => s.tool0
  | .t1 => s.tool1

/-- A state with one tool record replaced. -/
def State.setTool (s : State) (i : ToolId) (t : Tool) : State :=
  match i with
  | .t0 => { s with tool0 := t }
  | .t1 => { s with tool1 := t }

/-- The held observations of a tool. -/
def Frame.obs (f : Frame) : ToolId → ToolObs
  | .t0 => f.obs0
  | .t1 => f.obs1

/-- A frame with the held observations of one tool replaced. -/
def Frame.setObs (f : Frame) (i : ToolId) (o : ToolObs) : Frame :=
  match i with
  | .t0 => { f with obs0 := o }
  | .t1 => { f with obs1 := o }

/-- FrameStamp of the frame: the low 16 bits of FrameCount (R12). -/
def State.stamp (s : State) : BitVec 16 := s.frame.count.setWidth 16

/-- EffAcquire (R34). -/
def State.effAcquire (s : State) : Nat := max s.settings.tracking.acquire (2 * s.frame.noiseFloor)

/-- EffHold (R34). -/
def State.effHold (s : State) : Nat := max s.settings.tracking.hold s.frame.noiseFloor

/-- A port's backlog: NextSeq − cursor, modulo 65536 (R105). -/
def State.backlog (s : State) (p : Port) : Nat := (s.nextSeq - (s.port p).cursor).toNat

/-- The sync timer's expiry length (R16). -/
def Timing.expiry (t : Timing) : Nat := 2 * t.syncRatio * t.framePeriod

/-! ## Requests and answers -/

/-- Byte `k`, from 0, that port `p` drove after the code byte of its latest transaction (R121, R124): past the listed
bytes the part drives 0, so an empty list is 0 in every byte, as of a request transaction (log entry 6). -/
def State.driven (s : State) (p : Port) (k : Nat) : Byte := (s.port p).sent.getD k 0

/-- Port `p` drives 0 in every byte of this transaction (R121). -/
def State.drivesZero (s : State) (p : Port) : State := s.setPort p { s.port p with sent := [] }

/-- The answer of a request enters its port's store, NOT_READY until ANSWER_READY (R123), and the part drives 0 in every
byte of the request transaction (R121). -/
def State.answer (s : State) (p : Port) (code : Byte) (result : ResultCode) (payload : List Byte) : State :=
  s.setPort p { s.port p with store := .notReady { code, result, payload }, sent := [] }

/-- A transaction other than Fetch Response: ignored in STARTING, with its effect otherwise (R123, R160). The part
drives 0 in every byte of it (R121). -/
def request (p : Port) (s : State) (effect : State → State) : Host.Outcome State Fault Refusal :=
  if s.control.mode = .starting then .next (s.drivesZero p) else .next (effect s)

/-! ## Tasks -/

/-- The task of kind `k` that runs in a port's slot completes with `r`, and TaskDone is raised there (R127). -/
def State.completeTask (s : State) (p : Port) (k : TaskKind) (r : ResultCode) : State :=
  if (s.port p).slot = .running k then
    (s.setPort p { s.port p with slot := .completed k r }).raise .taskDone p
  else s

/-- A taken timed request starts its task and discards a completed result (R126). -/
def State.startTask (s : State) (p : Port) (k : TaskKind) : State :=
  s.setPort p { s.port p with slot := .running k }

/-- The slot holds a running task (R126). -/
def TaskSlot.isRunning : TaskSlot → Bool
  | .running _ => true
  | .empty => false
  | .completed _ _ => false

/-! ## Time -/

/-- The timers move on by `d` µs (chapters 1.3, R16, R151, R171 to R173). A stopped timer stays; the Key Monitor
stands while power is off or RESET_N is low. -/
def State.elapse (s : State) (d : Nat) : State :=
  { s with
    frame := { s.frame with
      timer := if s.frame.phase = .stopped then s.frame.timer else s.frame.timer + d
      syncTimer := s.frame.syncTimer.map (· + d) }
    control := { s.control with autoResume := s.control.autoResume.map (· + d) }
    pins := { s.pins with startup := s.pins.startup.map (· + d) }
    keys :=
      if s.pins.power && s.pins.resetN then
        { s.keys with
          pace := s.keys.pace + d
          hold := match s.keys.hold with
            | .running t => .running (t + d)
            | h => h }
      else s.keys }

/-- Time moves on until the frame timer reads `t`; not at all when it has passed `t` (log entry 2). -/
def State.untilFrame (s : State) (t : Nat) : State := s.elapse (t - s.frame.timer)

/-- Time moves on until a timer that reads `now` reads `t` (log entry 2). -/
def State.until (s : State) (now t : Nat) : State := s.elapse (t - now)

/-! ## Search Cursor -/

/-- The next enabled profile after `i` in cyclic order; `i` itself when it is the only one or none is enabled (R37, R39, R40). -/
def nextEnabled (ps : Vector Profile 4) (i : Fin 4) : Fin 4 :=
  ([i + 1, i + 2, i + 3].find? fun j => ps[j].enabled).getD i

/-- The lowest-index enabled profile, or P0 when none is enabled (R38). -/
def lowestEnabled (ps : Vector Profile 4) : Fin 4 := (([0, 1, 2, 3] : List (Fin 4)).find? fun j => ps[j].enabled).getD 0

/-- The Search Cursor is reset (R38). -/
def State.resetSearch (s : State) : State := { s with search := sweepFrom (lowestEnabled s.settings.profiles) }

/-! ## Modes -/

/-- The mode and its owner change, and ModeChanged is raised at both ports (R148). -/
def State.changeMode (s : State) (mode : Mode) (owner : Option Port) : State :=
  { s with control := { s.control with mode, owner } }.raiseBoth .modeChanged

/-- The mode becomes SCANNING with no owner and any active survey is dropped, with no event; the caller raises
ModeChanged (R148, R153, R157). -/
def State.backToScanning (s : State) : State :=
  { s with control := { s.control with mode := .scanning, owner := none, survey := none, autoResume := none } }

end Sys2Proof.Machine
end

