-- ==== Sys2Proof/Machine/Apply.lean ====
section
/-! DEFINITION. The Settings Store (chapter 9): what an application instance does to every block. -/

namespace Sys2Proof.Machine

/-- The value an item takes at an application instance (R141). -/
def takeChange {α : Type} (old : α) (w : Option (Change α)) : α :=
  match w with
  | some c => c.value
  | none => old

/-- The applied settings after an application instance (R141). -/
def Settings.applied (c : Settings) (w : Waiting) : Settings :=
  { c with
    timing := takeChange c.timing w.timing
    profiles := #v[takeChange c.profiles[0] w.profiles[0], takeChange c.profiles[1] w.profiles[1],
      takeChange c.profiles[2] w.profiles[2], takeChange c.profiles[3] w.profiles[3]]
    pressure := takeChange c.pressure w.pressure
    tracking := takeChange c.tracking w.tracking
    map := #v[takeChange c.map[0] w.map[0], takeChange c.map[1] w.map[1], takeChange c.map[2] w.map[2],
      takeChange c.map[3] w.map[3], takeChange c.map[4] w.map[4], takeChange c.map[5] w.map[5],
      takeChange c.map[6] w.map[6]]
    combo := takeChange c.combo w.combo }

/-- The port of every pending change, item by item (R138). -/
def Waiting.takers (w : Waiting) : List (Option Port) :=
  [w.timing.map (·.port)] ++ w.profiles.toList.map (·.map (·.port)) ++ [w.pressure.map (·.port), w.tracking.map (·.port)]
    ++ w.map.toList.map (·.map (·.port)) ++ [w.combo.map (·.port)]

/-- At least one change is pending (R141). -/
def Waiting.any (w : Waiting) : Bool := w.takers.any Option.isSome

/-- A change taken on port `p` is pending (R143). -/
def Waiting.anyBy (w : Waiting) (p : Port) : Bool := w.takers.contains (some p)

/-- SettingsChanged goes to the port other than the one that took an applied change (R143). -/
def State.raiseSettingsChanged (s : State) (w : Waiting) : State :=
  (s.raiseIf (w.anyBy .d) .settingsChanged .s).raiseIf (w.anyBy .s) .settingsChanged .d

/-- A tool marked for release when the applied fields of its profile differ from the old ones (R37). -/
def markRelease (old new : Vector Profile 4) (t : Tool) : Tool :=
  if t.state ≠ .vacant ∧ new[t.profile] ≠ old[t.profile] then { t with releaseMark := true } else t

/-- The Search Cursor after profile changes were applied (R37). -/
def cursorAfterProfiles (old new : Vector Profile 4) (k : SearchCursor) : SearchCursor :=
  if new[k.profile] = old[k.profile] then k
  else if new[k.profile].enabled then sweepFrom k.profile
  else sweepFrom (nextEnabled new k.profile)

/-- The effects of applied profile changes (R37). -/
def State.profileEffects (s : State) (old : Vector Profile 4) : State :=
  { s with
    tool0 := markRelease old s.settings.profiles s.tool0
    tool1 := markRelease old s.settings.profiles s.tool1
    search := cursorAfterProfiles old s.settings.profiles s.search }

/-- The effect of an applied SyncMode change on the sync state (R13). -/
def State.syncEffects (s : State) (old : SyncMode) : State :=
  if s.settings.timing.syncMode = old then s
  else
    match s.settings.timing.syncMode with
    | .locked => { s with frame := { s.frame with sync := .seeking, syncTimer := none } }
    | .free => { s with frame := { s.frame with sync := .free, syncTimer := none } }

/-- The accepted levels of the keys, K0 first. -/
def Keys.levels (k : Keys) : List Bool := [k.key0.accepted, k.key1.accepted, k.key2.accepted, k.key3.accepted]

/-- How many keys, from K0 on, a combination names (R173). -/
def KeyCombo.size : KeyCombo → Nat
  | .none => 0
  | .k01 => 2
  | .k012 => 3
  | .all => 4

/-- Every key of a combination is accepted PRESSED (R173). -/
def Keys.allPressed (k : Keys) (c : KeyCombo) : Bool := (k.levels.take c.size).all id

/-- The hold timer judged against a changed combination (R173). -/
def judgedHold (k : Keys) (c : KeyCombo) : HoldTimer :=
  if c = .none then .stopped
  else
    match k.hold with
    | .spent => .spent
    | .stopped | .running _ => if k.allPressed c then .running 0 else .stopped

/-- The effect of an applied combination on the hold timer (R173). -/
def State.comboEffects (s : State) (old : KeyCombo) : State :=
  if s.settings.combo = old then s else { s with keys := { s.keys with hold := judgedHold s.keys s.settings.combo } }

/-- One application instance: every pending change is applied together, SettingsEpoch advances, SettingsChanged is
raised, and the owning rules' effects follow. No pending change, no instance (R141 to R143). -/
def State.applyWaiting (s : State) : State :=
  if s.waiting.any then
    let c := s.settings
    let s1 := { s with settings := c.applied s.waiting, waiting := noWaiting, epoch := s.epoch + 1 }
    (((s1.raiseSettingsChanged s.waiting).profileEffects c.profiles).syncEffects c.timing.syncMode).comboEffects c.combo
  else s

/-- A taken settings request: its change is pending, or it is applied at once in HELD (R140, R142). -/
def State.takeSetting (s : State) (w : Waiting) : State :=
  let s1 := { s with waiting := w }
  if s.control.mode = .held then s1.applyWaiting else s1

/-- A Set Grid is applied: one application instance of its own (R143, R145). -/
def State.applyGrid (s : State) (p : Port) (xCount yCount : Nat) : State :=
  let c := { s.settings with xCount, yCount }
  let s1 := { s with
    settings := c
    epoch := s.epoch + 1
    portS := { s.portS with view := s.portS.view.within c.xSpan c.ySpan }
    portD := { s.portD with view := s.portD.view.within c.xSpan c.ySpan }
    frame :=
      if xCount = s.settings.xCount ∧ yCount = s.settings.yCount then s.frame
      else { s.frame with noiseAxis := .x, noiseBand := 0 } }
  s1.resetSearch.raise .settingsChanged p.other

end Sys2Proof.Machine
end

