-- ==== Sys2Proof/Machine/Attention.lean ====
section
/-! DEFINITION. The requests on a port's attention, ticks, view and pace: READ_ATTENTION, SET_ATTENTION_MASK, SET_TICK, ACK_TICK, SET_VIEW, SET_WATERMARK. -/

namespace Sys2Proof.Machine

/-- The list-head byte of Read Attention (R181). -/
def headByte : List (BitVec 4) → List Byte
  | [] => u8 0
  | c :: rest => u8 (128 + 16 * rest.length + c.toNat)

/-- The keys byte of Read Attention: bits 0 to 3 are the accepted levels (R181). -/
def keysByte (k : Keys) : List Byte :=
  u8 (bitAt 0 k.key0.accepted + bitAt 1 k.key1.accepted + bitAt 2 k.key2.accepted + bitAt 3 k.key3.accepted)

/-- The payload of Read Attention (R132, R181). -/
def State.attentionPayload (s : State) (p : Port) : List Byte :=
  let ps := s.port p
  u16 ps.pendingEvents.toNat ++ u16 ps.mask.toNat ++ u8 (ps.tickPoint.num + bitAt 7 ps.tickPending)
    ++ headByte ps.list0 ++ headByte ps.list1 ++ keysByte s.keys ++ u8 s.control.mode.num ++ portByte s.control.owner
    ++ u8 s.frame.sync.num ++ u16 s.epoch.toNat

/-- A Read Attention clears the record and removes the head of each list (R95, R132). -/
def PortState.drained (ps : PortState) : PortState :=
  { ps with events := 0, list0 := ps.list0.tail, list1 := ps.list1.tail }

/-- READ_ATTENTION (R132). -/
def execReadAttention (p : Port) (s : State) : Host.Outcome State Fault Refusal :=
  request p s fun s => (s.setPort p (s.port p).drained).answer p 0x20 .ok (s.attentionPayload p)

/-- SET_ATTENTION_MASK (R131). -/
def execSetAttentionMask (p : Port) (mask : Half) (s : State) : Host.Outcome State Fault Refusal :=
  request p s fun s =>
    match maskOf mask with
    | none => s.answer p 0x21 .badValue []
    | some m => (s.setPort p { s.port p with mask := m }).answer p 0x21 .ok (u16 m.toNat)

/-- SET_TICK (R133). -/
def execSetTick (p : Port) (point : Byte) (s : State) : Host.Outcome State Fault Refusal :=
  request p s fun s =>
    match tickPointOf point with
    | none => s.answer p 0x22 .badValue []
    | some t =>
      (s.setPort p { s.port p with
        tickPoint := t, tickPending := (s.port p).tickPending && t != .off }).answer p 0x22 .ok []

/-- ACK_TICK (R134). -/
def execAckTick (p : Port) (s : State) : Host.Outcome State Fault Refusal :=
  request p s fun s => (s.setPort p { s.port p with tickPending := false }).answer p 0x23 .ok (flag (s.port p).tickPending)

/-- The four numbers of a view's area (R114, R115). -/
def areaBytes (v : View) : List Byte := i16 v.x0 ++ i16 v.x1 ++ i16 v.y0 ++ i16 v.y1

/-- SET_VIEW (R115). -/
def execSetView (p : Port) (a : ViewArgs) (s : State) : Host.Outcome State Fault Refusal :=
  request p s fun s =>
    match viewOf s.settings a with
    | none => s.answer p 0x28 .badValue []
    | some v => (s.setPort p { s.port p with view := v }).answer p 0x28 .ok (areaBytes v)

/-- The Watermark a Set Watermark writes (R107). -/
def watermarkOf (value : Half) : Nat := clampNat 1 Config.ringCapacity value.toNat

/-- SET_WATERMARK (R107). -/
def execSetWatermark (p : Port) (value : Half) (s : State) : Host.Outcome State Fault Refusal :=
  request p s fun s =>
    (s.setPort p { s.port p with watermark := watermarkOf value }).answer p 0x29 .ok (u16 (watermarkOf value))

end Sys2Proof.Machine
end

