-- ==== Sys2Proof/Machine/Search.lean ====
section
/-! DEFINITION. The Search Walk (chapter 3.2) and the noise measurement (chapter 2.5). -/

namespace Sys2Proof.Machine

/-- The Search Walk has work: a VACANT tool record and an enabled profile (R39). -/
def State.searchHasWork (s : State) : Bool :=
  (s.tool0.state == .vacant || s.tool1.state == .vacant) && s.settings.profiles.toList.any (·.enabled)

/-- The cursor a SEARCH slot with work runs from: off a disabled profile first (R39). -/
def State.searchFrom (s : State) : SearchCursor :=
  if s.settings.profiles[s.search.profile].enabled then s.search
  else sweepFrom (nextEnabled s.settings.profiles s.search.profile)

/-- What a SEARCH slot tells the Front End (R39). -/
def searchJob (c : Settings) (k : SearchCursor) : Job :=
  match k.phase with
  | .sweep => .sweep c.profiles[k.profile].tipFreq k.band
  | .locate => .locate c.profiles[k.profile].tipFreq (nearestCoil (k.hitX.getD 0)) k.band

/-- A tool excludes a sweep hit at `x`: tracked, of the cursor's profile, within 512 gu (R41). -/
def excludesX (k : SearchCursor) (x : Int) (t : Tool) : Bool :=
  t.state != .vacant && t.profile == k.profile && magnitude (t.raw.x - x) ≤ Config.exclusion

/-- A tool excludes a placement at `(x, y)` (R43). -/
def excludesXY (k : SearchCursor) (x y : Int) (t : Tool) : Bool :=
  excludesX k x t && magnitude (t.raw.y - y) ≤ Config.exclusion

/-- The sweep after band `b`: the next band, or band 0 of the next enabled profile after the last (R40, R42). -/
def sweepAfter (c : Settings) (k : SearchCursor) (b : Nat) : SearchCursor :=
  if b + 1 < bands c.xCount then { sweepFrom k.profile with band := b + 1 } else sweepFrom (nextEnabled c.profiles k.profile)

/-- The Search Walk at the end of a DONE SEARCH slot in SWEEP on X band `b` (R40, R41). -/
def State.sweepResult (s : State) (b : Nat) (bank : List Nat) : State :=
  let amps := bandAmps s.settings.xCount b bank
  let x := bandPosition b amps s.settings.xSpan
  if s.effAcquire ≤ peakAmp amps ∧ !excludesX s.search x s.tool0 ∧ !excludesX s.search x s.tool1 then
    { s with search := { phase := .locate, profile := s.search.profile, band := 0, hitX := some x, bestAmp := some 0, bestY := none } }
  else { s with search := sweepAfter s.settings s.search b }

/-- The cursor with a Y band's peak kept when it is strictly above BestAmp (R42). -/
def keepBest (c : Settings) (k : SearchCursor) (b : Nat) (amps : List Nat) : SearchCursor :=
  if k.bestAmp.getD 0 < peakAmp amps then
    { k with bestAmp := some (peakAmp amps), bestY := some (bandPosition b amps c.ySpan) }
  else k

/-- A tool record at its placement (R43). -/
def placedTool (profile : Fin 4) (x y : Int) (count : BitVec 32) : Tool :=
  { vacantTool with state := .acquire, profile, raw := ⟨x, y⟩, lastObs := count }

/-- The placement at the end of a locate (R43). -/
def State.place (s : State) (k : SearchCursor) : State :=
  match k.hitX, k.bestY with
  | some x, some y =>
    if s.effAcquire ≤ k.bestAmp.getD 0 ∧ !excludesXY k x y s.tool0 ∧ !excludesXY k x y s.tool1 then
      if s.tool0.state = .vacant then s.setTool .t0 (placedTool k.profile x y s.frame.count)
      else if s.tool1.state = .vacant then s.setTool .t1 (placedTool k.profile x y s.frame.count)
      else s
    else s
  | _, _ => s

/-- The X band of the hit coil (R42). -/
def hitBand (k : SearchCursor) : Nat := (floorDiv (nearestCoil (k.hitX.getD 0)) Config.bandCoils).toNat

/-- The Search Walk at the end of a DONE SEARCH slot in LOCATE on Y band `b` (R42, R43). -/
def State.locateResult (s : State) (b : Nat) (bank : List Nat) : State :=
  let k := keepBest s.settings s.search b (bandAmps s.settings.yCount b bank)
  if b + 1 < bands s.settings.yCount then { s with search := { k with band := b + 1 } }
  else { s.place k with search := sweepAfter s.settings k (hitBand k) }

/-- The noise cursor after band `b` of `axis` (R32). -/
def noiseAfter (c : Settings) (axis : Axis) (b : Nat) : Axis × Nat :=
  if b + 1 < bands (c.coils axis) then (axis, b + 1)
  else
    match axis with
    | .x => (.y, 0)
    | .y => (.x, 0)

/-- The end of a DONE NOISE slot on band `b` of `axis` (R32, R33). -/
def State.noiseResult (s : State) (axis : Axis) (b : Nat) (bank : List Nat) : State :=
  let k := noiseAfter s.settings axis b
  { s with frame := { s.frame with
      noiseFloor := peakAmp (bandAmps (s.settings.coils axis) b bank)
      noiseAxis := k.1
      noiseBand := k.2 } }

end Sys2Proof.Machine
end

