-- ==== Sys2Proof/Machine/Survey.lean ====
section
/-! DEFINITION. Coil Survey (chapter 10.4): storing bands, completing, timing out. -/

namespace Sys2Proof.Machine

/-- The amplitudes of band `b` that are stored: those of the coils that exist (R156). -/
def storedAmps (count b : Nat) (bank : List Nat) : List Nat :=
  (bandAmps count b bank).take (count - Config.bandCoils * b)

/-- The survey after a window that ended DONE (R156). Bands come in rising order, so a band's entries follow those
stored before it (log entry 17). -/
def Survey.store (v : Survey) (c : Settings) (x y : List Nat) : Survey :=
  { v with
    xs := if v.xDone then v.xs else v.xs ++ storedAmps c.xCount v.bx x
    ys := if v.yDone then v.ys else v.ys ++ storedAmps c.yCount v.byy y
    bx := if v.xDone || v.bx + 1 == bands c.xCount then v.bx else v.bx + 1
    byy := if v.yDone || v.byy + 1 == bands c.yCount then v.byy else v.byy + 1
    xDone := v.xDone || v.bx + 1 == bands c.xCount
    yDone := v.yDone || v.byy + 1 == bands c.yCount }

/-- Mode Control stores a window's amplitudes while its survey is active (R156, R157). -/
def State.storeSurvey (s : State) (x y : List Nat) : State :=
  { s with control := { s.control with survey := s.control.survey.map fun v => v.store s.settings x y } }

/-- The capture of a completed survey (R156, R158). -/
def Survey.capture (v : Survey) (c : Settings) (stamp : BitVec 16) (owner : Port) : Capture :=
  { kind := v.kind, profile := v.profile, xCount := c.xCount, yCount := c.yCount, stamp, entries := v.xs ++ v.ys, owner }

/-- The active survey ends with `r`: SCANNING with no owner, ModeChanged at both ports, the task completed (R156, R157). -/
def State.endSurvey (s : State) (owner : Port) (r : ResultCode) : State :=
  (s.backToScanning.raiseBoth .modeChanged).completeTask owner .coilSurvey r

/-- Mode Control at the frame end of a survey frame while its survey is active (R156, R157). -/
def State.surveyFrameEnd (s : State) : State :=
  match s.control.survey, s.control.owner with
  | some v, some owner =>
    if v.xDone && v.yDone then
      { s with control := { s.control with capture := some (v.capture s.settings s.stamp owner) } }.endSurvey owner .ok
    else if Config.surveyFrameLimit ≤ v.frames then s.endSurvey owner .timedOut
    else s
  | _, _ => s

/-- A survey that a port has waiting or active is dropped when that port or the other ends it; the mode is the
caller's (R149, R153, R157). -/
def State.dropReservation (s : State) : State := { s with control := { s.control with reservation := none } }

end Sys2Proof.Machine
end

