-- ==== Sys2Proof/Machine/Scan.lean ====
section
/-! DEFINITION. The Scan Timing Unit (chapters 1 and 2): frame starts, slots, frame ends, DSYNC, resume. -/

namespace Sys2Proof.Machine

/-! ## Frame start -/

/-- The Pending Plan becomes the Active Plan and its task completes DONE (R24). -/
def State.applyPlan (s : State) : State :=
  match s.frame.pendingPlan with
  | some q => { s with frame := { s.frame with activePlan := q.plan, pendingPlan := none } }.completeTask q.issuer .setPlan .ok
  | none => s

/-- The sync timer expires (R16). -/
def State.syncExpire (s : State) : State :=
  { s with frame := { s.frame with sync := .seeking, syncTimer := none } }.raiseBoth .syncLost

/-- The expiry that a Timing change applied at this frame start (`applied`) brings about, when its length is no greater
than the time already passed (R16, log entry 12). -/
def State.expireAfterChange (s : State) (applied : Bool) : State :=
  match s.frame.syncTimer with
  | some t => if applied ∧ s.settings.timing.expiry ≤ t then s.syncExpire else s
  | none => s

/-- Mode Control at a frame start: a waiting survey becomes active, an active one counts a frame (R154, R157). -/
def State.enterSurvey (s : State) : State :=
  match s.control.mode with
  | .scanning =>
    match s.control.reservation with
    | some r =>
      { s with control := { s.control with
          reservation := none
          survey := some { kind := r.kind, profile := r.profile, frames := 1, bx := 0, byy := 0, xDone := false,
                           yDone := false, xs := [], ys := [] } } }.changeMode .survey (some r.port)
    | none => s
  | .survey =>
    { s with control := { s.control with survey := s.control.survey.map fun v => { v with frames := v.frames + 1 } } }
  | .starting | .holding | .held => s

/-- The first non-IDLE slot from index `i` on, 8 when there is none. -/
def nextSlot (p : Plan) (i : Nat) : Nat :=
  ((List.finRange 8).find? fun k => decide (i ≤ k.val) && !isIdle p[k]).elim 8 (·.val)

/-- The outcome of a slot at the frame start: IDLE slots take IDLE at once (R31). -/
def startOutcome (r : SlotRecord) : Option SlotOutcome := if isIdle r then some .idle else none

/-- The outcomes of a plan's frame at its start (R31). -/
def startOutcomes (p : Plan) : Vector (Option SlotOutcome) 8 :=
  #v[startOutcome p[0], startOutcome p[1], startOutcome p[2], startOutcome p[3], startOutcome p[4], startOutcome p[5],
     startOutcome p[6], startOutcome p[7]]

/-- The outcomes of a survey frame at its start: S0 for the window, IDLE for the others (R31). -/
def surveyOutcomes : Vector (Option SlotOutcome) 8 :=
  #v[none, some .idle, some .idle, some .idle, some .idle, some .idle, some .idle, some .idle]

/-- The survey window of the frame that starts, when a survey is active (R155). -/
def State.windowNow (s : State) : Option SurveyWindow :=
  if s.control.mode = .survey then
    s.control.survey.map fun v =>
      { kind := v.kind, profile := v.profile, bx := v.bx, byy := v.byy, xDone := v.xDone, yDone := v.yDone }
  else none

/-- The frame is laid out: the plan's slots, or the survey window in their place (R31, R155). -/
def State.layOut (s : State) : State :=
  let w := s.windowNow
  { s with frame := { s.frame with
      window := w
      outcomes := if w.isSome then surveyOutcomes else startOutcomes s.frame.activePlan
      next := if w.isSome then 0 else nextSlot s.frame.activePlan 0 } }

/-- A frame starts (R9): FrameCount, the frame timer, the Pending Plan, the pending settings, the survey, the
FRAME_START ticks. -/
def State.frameStart (s : State) : State :=
  let s1 := { s with frame := { s.frame with
      count := s.frame.count + 1
      timer := 0
      midDone := false
      phase := .running
      run := .none
      obs0 := noObs
      obs1 := noObs } }
  ((s1.applyPlan.applyWaiting.expireAfterChange s.waiting.timing.isSome).enterSurvey.layOut).tickBoth .frameStart

/-- The scan resumes from HELD (R17, R38, R151): the Search Cursor is reset, a LOCKED sync state becomes SEEKING, a
frame starts. The mode and its event are the caller's. -/
def State.resume (s : State) : State :=
  let s1 := s.resetSearch
  { s1 with frame := { s1.frame with
      sync := if s1.frame.sync = SyncState.locked then SyncState.seeking else s1.frame.sync
      syncTimer := none } }.frameStart

/-! ## Slots -/

/-- What running slot `k` takes: its times and whether it obeys DRIVE_BUSY (R18, R155). -/
structure SlotTimes where
  start : Nat
  excite : Nat
  listen : Nat
  slip : Nat
  guarded : Bool
deriving DecidableEq, Repr

/-- The times of slot `k` of the frame that is running: of the plan, or of the survey window (R18, R155). -/
def Frame.slotTimes (f : Frame) (k : Fin 8) : SlotTimes :=
  match f.window with
  | some w =>
    { start := Config.surveyStart, excite := if w.kind = .response then Config.surveyExcite else 0,
      listen := Config.surveyListen, slip := 0, guarded := true }
  | none =>
    let r := f.activePlan[k]
    { start := r.start.toNat, excite := r.excite.toNat, listen := r.listen.toNat, slip := r.slip.toNat,
      guarded := r.guard != 0 }

/-- Where TRACK windows are centred: the raw position led by one frame of raw velocity (R55). -/
def trackJob (c : Settings) (i : ToolId) (t : Tool) : Job :=
  .track i c.profiles[t.profile].tipFreq (windowCentre c.xCount (t.raw.x + t.rawV.x)) (windowCentre c.yCount (t.raw.y + t.rawV.y))

/-- Where TILT windows are centred: the last ring raw position, or the tip raw position (R55). -/
def tiltJob (c : Settings) (i : ToolId) (t : Tool) : Job :=
  let q := t.ring.getD t.raw
  .tilt i c.profiles[t.profile].ringFreq (windowCentre c.xCount q.x) (windowCentre c.yCount q.y)

/-- The code coil (R4). -/
def codeJob (c : Settings) (i : ToolId) (t : Tool) : Job :=
  .code i c.profiles[t.profile].tipFreq (nearestCoil t.raw.x)

/-- The job of the survey window (R155). -/
def surveyJob (c : Settings) (w : SurveyWindow) : Job :=
  .survey w.kind c.profiles[w.profile].tipFreq w.bx w.byy w.xDone w.yDone

/-- What a slot that begins tells the Front End; none when it is not needed (R26, R39). -/
def State.slotJob (s : State) (k : Fin 8) : Option Job :=
  match s.frame.window with
  | some w => some (surveyJob s.settings w)
  | none =>
    let r := s.frame.activePlan[k]
    let i := slotTool r
    let tracked := (s.tool i).state != .vacant
    match functionOf r with
    | some .track => if tracked then some (trackJob s.settings i (s.tool i)) else none
    | some .tilt => if tracked then some (tiltJob s.settings i (s.tool i)) else none
    | some .code => if tracked then some (codeJob s.settings i (s.tool i)) else none
    | some .search => if s.searchHasWork then some (searchJob s.settings s.searchFrom) else none
    | some .noise => some (.noise s.frame.noiseAxis s.frame.noiseBand)
    | some .idle | none => none

/-- The Search Cursor after a slot's start: a SEARCH slot with work moves it off a disabled profile (R39). -/
def State.searchAtStart (s : State) (k : Fin 8) : SearchCursor :=
  if s.frame.window.isNone && functionOf s.frame.activePlan[k] == some .search && s.searchHasWork then s.searchFrom
  else s.search

/-- A slot's excitation begins now; with no excitation its listen phase does (R27, R28). -/
def State.beginRun (s : State) (k : Fin 8) (j : Job) : State :=
  { s with frame := { s.frame with
      run := if (s.frame.slotTimes k).excite = 0 then .listening k j s.frame.timer else .exciting k j s.frame.timer } }

/-! ## Frame end -/

/-- Every TRACK slot of the plan for tool `i` ended NOT_NEEDED in this frame, or there is none (R47). -/
def Frame.trackUnneeded (f : Frame) (i : ToolId) : Bool :=
  (List.finRange 8).all fun k =>
    !(functionOf f.activePlan[k] == some .track && slotTool f.activePlan[k] == i) || f.outcomes[k] == some .notNeeded

/-- What tool `i`'s frame end reads (R47, R57). -/
def State.trackEnv (s : State) (i : ToolId) : TrackEnv :=
  { settings := s.settings, effHold := s.effHold, count := s.frame.count, obs := s.frame.obs i,
    trackUnneeded := s.frame.trackUnneeded i, entersHeld := s.control.mode == .holding }

/-- The frame end of tool `i` (R47). -/
def State.toolEnd (s : State) (i : ToolId) : ToolEnd := toolFrameEnd (s.trackEnv i) (s.tool i)

/-- A change of an accepted code enters the tool's list at a port (R94). -/
def PortState.enterCode (ps : PortState) (i : ToolId) (c : Option (BitVec 4)) : PortState :=
  match c, i with
  | none, _ => ps
  | some c, .t0 => { ps with list0 := enterChange ps.list0 c }
  | some c, .t1 => { ps with list1 := enterChange ps.list1 c }

/-- A change of an accepted code enters the tool's list at both ports (R93, R94). -/
def State.enterCode (s : State) (i : ToolId) (c : Option (BitVec 4)) : State :=
  { s with portS := s.portS.enterCode i c, portD := s.portD.enterCode i c }

/-- The records of a frame end, T0's first, with their Seq values (R103). -/
def numbered (seq : BitVec 16) : List Sample → List Sample
  | [] => []
  | r :: rest => { r with seq } :: numbered (seq + 1) rest

/-- A port at an append of `k` records: an overrun moves its cursor to the oldest record still in the ring (R106). -/
def PortState.overrun (ps : PortState) (nextSeq : BitVec 16) (k : Nat) : PortState :=
  { ps with cursor := ps.cursor + BitVec.ofNat 16 ((nextSeq - ps.cursor).toNat + k - Config.ringCapacity) }

/-- An append of `k` records overruns a port (R106). -/
def State.overruns (s : State) (p : Port) (k : Nat) : Bool := decide (Config.ringCapacity < s.backlog p + k)

/-- The records of a frame end join the ring in one append (R103, R106). -/
def State.append (s : State) (rs : List Sample) : State :=
  if rs.isEmpty then s
  else
    let k := rs.length
    let ring := s.ring ++ numbered s.nextSeq rs
    let s1 := { s with
      ring := ring.drop (ring.length - Config.ringCapacity)
      nextSeq := s.nextSeq + BitVec.ofNat 16 k
      portS := s.portS.overrun s.nextSeq k
      portD := s.portD.overrun s.nextSeq k }
    (s1.raiseIf (s.overruns .s k) .overrun .s).raiseIf (s.overruns .d k) .overrun .d

/-- SamplesWaiting at a port after a frame end's append (R107). -/
def State.waitingTest (s : State) (p : Port) : State :=
  s.raiseIf (decide ((s.port p).watermark ≤ s.backlog p)) .samplesWaiting p

/-- The sample records two tools' frame ends write, T0's first (R54). -/
def samplesOf (stamp : BitVec 16) (e0 e1 : ToolEnd) : List Sample :=
  (e0.draft.map (sampleOf .t0 stamp e0.tool)).toList ++ (e1.draft.map (sampleOf .t1 stamp e1.tool)).toList

/-- A tool's frame end wrote a record of kind `k`. -/
def ToolEnd.wrote (e : ToolEnd) (k : SampleKind) : Bool := (e.draft.map (·.kind)) == some k

/-- The Seq of T0's record when the append starts at `next` (R103). -/
def seqOf0 (next : BitVec 16) (e0 : ToolEnd) : Option (BitVec 16) := if e0.draft.isSome then some next else none

/-- The Seq of T1's record when the append starts at `next` (R103). -/
def seqOf1 (next : BitVec 16) (e0 e1 : ToolEnd) : Option (BitVec 16) :=
  if e1.draft.isSome then some (if e0.draft.isSome then next + 1 else next) else none

/-- The Track Engine's work at a frame end: both tools, the code-change lists, the append, the snapshots, the events,
the SamplesWaiting test (R11, R47, R54, R93, R99, R103, R107, R112). -/
def State.trackEngine (s : State) : State :=
  let e0 := s.toolEnd .t0
  let e1 := s.toolEnd .t1
  let s1 := ((s.enterCode .t0 e0.change).enterCode .t1 e1.change).append (samplesOf s.stamp e0 e1)
  let s2 := { s1 with
    tool0 := e0.record
    tool1 := e1.record
    snap0 := snapshotOf e0.tool s.snap0 (seqOf0 s.nextSeq e0) s.stamp
    snap1 := snapshotOf e1.tool s.snap1 (seqOf1 s.nextSeq e0 e1) s.stamp }
  let s3 := ((s2.raiseBothIf (e0.wrote .enter || e1.wrote .enter) .toolEnter).raiseBothIf
    (e0.wrote .leave || e1.wrote .leave) .toolLeave).raiseBothIf (e0.known || e1.known) .identityKnown
  (s3.waitingTest .s).waitingTest .d

/-- The reported outcome of a slot at the frame end. A slot without one is an IDLE slot (R31). -/
def endOutcome (o : Option SlotOutcome) : SlotOutcome := o.getD .idle

/-- The outcomes of the frame that ends, as those of the last completed frame (R11, R31). -/
def endOutcomes (v : Vector (Option SlotOutcome) 8) : Vector SlotOutcome 8 :=
  #v[endOutcome v[0], endOutcome v[1], endOutcome v[2], endOutcome v[3], endOutcome v[4], endOutcome v[5],
     endOutcome v[6], endOutcome v[7]]

/-- The frame enters its TAIL and becomes the last completed frame (R11). -/
def State.enterTail (s : State) : State :=
  { s with frame := { s.frame with
      phase := .tail
      run := .none
      lastOutcomes := endOutcomes s.frame.outcomes
      lastFrame := some s.stamp } }

/-- The frame timer becomes STOPPED and the sync timer stops (R17). -/
def State.stopFrames (s : State) : State := { s with frame := { s.frame with phase := .stopped, syncTimer := none } }

/-- The owner's Hold Scan completes DONE (R150). -/
def State.completeHold (s : State) : State :=
  match s.control.owner with
  | some p => s.completeTask p .holdScan .ok
  | none => s

/-- The auto-resume timer starts when the hold's ResumeDelay is not 0 (R150, R151). -/
def State.startAutoResume (s : State) : State :=
  { s with control := { s.control with autoResume := if s.control.resumeDelay = 0 then none else some 0 } }

/-- The steps 2 to 6 of a frame end that enters HELD (R17, R142, R150). -/
def State.enterHeld (s : State) : State :=
  (s.applyWaiting.stopFrames.changeMode .held s.control.owner).completeHold.startAutoResume

/-- A frame end (R11): the Track Engine's work, then the entry to HELD in HOLDING (R150), or the survey's own step in
SURVEY (R156, R157). -/
def State.frameEnd (s : State) : State :=
  let s1 := s.trackEngine.enterTail
  match s1.control.mode with
  | .holding => s1.enterHeld
  | .survey => s1.surveyFrameEnd
  | .starting | .scanning | .held => s1

/-- A slot ends with outcome `o`; with the last one the frame ends (R11, R28, R31). -/
def State.endSlot (s : State) (k : Fin 8) (o : SlotOutcome) : State :=
  let s1 := { s with frame := { s.frame with run := .none, outcomes := s.frame.outcomes.set k (some o) } }
  if s1.frame.next < 8 then s1 else s1.frameEnd

/-- A slot begins at its Start: it is needed or not, guarded or not, and runs, waits or ends (R26, R27, R30). -/
def State.beginSlot (s : State) (k : Fin 8) : State :=
  let t := s.frame.slotTimes k
  let s1 := s.untilFrame t.start
  let s2 := { s1 with
    search := s.searchAtStart k
    frame := { s1.frame with next := if s.frame.window.isSome then 8 else nextSlot s.frame.activePlan (k.val + 1) } }
  match s.slotJob k with
  | none => s2.endSlot k .notNeeded
  | some j =>
    if t.guarded && s.pins.driveBusy then
      if t.slip = 0 then s2.endSlot k .skipped
      else { s2 with frame := { s2.frame with run := .waiting k j } }
    else s2.beginRun k j

/-- The observation of a DONE slot goes to its consumer (R4 to R7, R28). -/
def State.handOn (s : State) (j : Job) (r : Reading) : State :=
  match j with
  | .track i _ cx cy =>
    let xs := windowAmps r.x
    let o : TrackObs := { cx, cy, xs, ys := windowAmps r.y, phase := r.phase.getD (peakIndex xs) 0 % 1024 }
    { s with frame := s.frame.setObs i { s.frame.obs i with track := some o } }
  | .tilt i _ cx cy =>
    { s with frame := s.frame.setObs i { s.frame.obs i with tilt := some { cx, cy, xs := windowAmps r.x, ys := windowAmps r.y } } }
  | .code i _ _ =>
    { s with frame := s.frame.setObs i { s.frame.obs i with
        code := some { amplitude := saturate (r.x.getD 0 0), symbol := r.symbol } } }
  | .sweep _ b => s.sweepResult b r.x
  | .locate _ _ b => s.locateResult b r.y
  | .noise .x b => s.noiseResult .x b r.x
  | .noise .y b => s.noiseResult .y b r.y
  | .survey .. => if s.control.mode = .survey then s.storeSurvey r.x r.y else s

/-! ## DSYNC -/

/-- A non-IDLE slot of the running frame has begun: its SLOT_BEGIN is taken, or the frame timer has reached its Start
(R15), which with Start 0 it has at the frame start itself. -/
def Frame.slotBegun (f : Frame) : Bool :=
  match f.window with
  | some _ => 0 < f.next || Config.surveyStart ≤ f.timer
  | none =>
    let first := nextSlot f.activePlan 0
    if h : first < 8 then first < f.next || f.activePlan[first].start.toNat ≤ f.timer else false

/-- What a taken DSYNC does to the sync state and timer (R14). -/
def State.syncTaken (s : State) : State :=
  let s1 := { s with frame := { s.frame with sync := .locked, syncTimer := some 0 } }
  s1.raiseBothIf (s.frame.sync == .seeking) .syncRegained

/-- A DSYNC moves the running frame's start to this instant (R15). -/
def State.moveStart (s : State) : State := { s with frame := { s.frame with timer := 0, midDone := false } }

/-- The outcome of a slot that a truncation finds (R15). -/
def truncatedOutcome (o : Option SlotOutcome) : Option SlotOutcome := some (o.getD .truncated)

/-- The outcomes after a truncation: every slot that has none yet becomes TRUNCATED (R15). -/
def truncatedOutcomes (v : Vector (Option SlotOutcome) 8) : Vector (Option SlotOutcome) 8 :=
  #v[truncatedOutcome v[0], truncatedOutcome v[1], truncatedOutcome v[2], truncatedOutcome v[3], truncatedOutcome v[4],
     truncatedOutcome v[5], truncatedOutcome v[6], truncatedOutcome v[7]]

/-- A DSYNC truncates the running frame: its frame end falls at once (R15). -/
def State.truncate (s : State) : State :=
  { s with frame := { s.frame with run := .none, next := 8, outcomes := truncatedOutcomes s.frame.outcomes } }.frameEnd

/-- The next frame starts unless the frame end has entered HELD (R14). -/
def State.frameStartUnlessHeld (s : State) : State := if s.control.mode = .held then s else s.frameStart

/-- A DSYNC pulse (R14, R15). -/
def State.dsyncPulse (s : State) : State :=
  if s.frame.sync = .free then s
  else
    match s.frame.phase with
    | .stopped => s
    | .tail => s.syncTaken.frameStart
    | .running =>
      if s.frame.slotBegun then s.syncTaken.truncate.frameStartUnlessHeld else s.syncTaken.moveStart

end Sys2Proof.Machine
end

