-- ==== Sys2Proof/Machine/Tasks.lean ====
section
/-! DEFINITION. The requests on the task slot and the plan: READ_TASK_RESULT, ABORT_TASK, SET_PLAN, READ_PLAN. -/

namespace Sys2Proof.Machine

/-- The payload of Read Task Result: state, kind when there is one, result when completed (R128, log entry 9). -/
def taskBytes : TaskSlot → List Byte
  | .empty => u8 0 ++ flag false ++ u8 0 ++ flag false ++ u8 0
  | .running k => u8 1 ++ flag true ++ u8 k.num ++ flag false ++ u8 0
  | .completed k r => u8 2 ++ flag true ++ u8 k.num ++ flag true ++ u8 r.num

/-- A slot after its state was reported: a completed one becomes EMPTY (R128). -/
def TaskSlot.collected : TaskSlot → TaskSlot
  | .completed _ _ => .empty
  | .running k => .running k
  | .empty => .empty

/-- READ_TASK_RESULT (R128). -/
def execReadTaskResult (p : Port) (s : State) : Host.Outcome State Fault Refusal :=
  request p s fun s =>
    (s.setPort p { s.port p with slot := (s.port p).slot.collected }).answer p 0x30 .ok (taskBytes (s.port p).slot)

/-- The Pending Plan is discarded when port `p` issued it (R25, R136). -/
def State.dropPlanOf (s : State) (p : Port) : State :=
  if s.frame.pendingPlan.map (·.issuer) = some p then { s with frame := { s.frame with pendingPlan := none } } else s

/-- A survey reservation of port `p` is dropped (R136, R157). -/
def State.dropReservationOf (s : State) (p : Port) : State :=
  if s.control.reservation.map (·.port) = some p then s.dropReservation else s

/-- The mode is `mode` and port `p` owns it. -/
def State.ownsMode (s : State) (p : Port) (mode : Mode) : Bool := s.control.mode == mode && s.control.owner == some p

/-- What an aborted task had begun is undone (R129, R153, R157). -/
def State.undoTask (s : State) (p : Port) : TaskKind → State
  | .setPlan => s.dropPlanOf p
  | .holdScan => if s.ownsMode p .holding then s.backToScanning.raiseBoth .modeChanged else s
  | .coilSurvey =>
    if s.ownsMode p .survey then s.backToScanning.raiseBoth .modeChanged else s.dropReservationOf p

/-- ABORT_TASK (R129). -/
def execAbortTask (p : Port) (s : State) : Host.Outcome State Fault Refusal :=
  request p s fun s =>
    match (s.port p).slot with
    | .running k => ((s.undoTask p k).completeTask p k .aborted).answer p 0x31 .ok []
    | .empty | .completed _ _ => s.answer p 0x31 .rejected []

/-- The FramePeriod the next frame start will bring into force (R19). -/
def State.nextFramePeriod (s : State) : Nat := (takeChange s.settings.timing s.waiting.timing).framePeriod

/-- The task of a plan that is pending completes SUPERSEDED at its port (R23). -/
def State.supersede (s : State) : State :=
  match s.frame.pendingPlan with
  | some q => s.completeTask q.issuer .setPlan .superseded
  | none => s

/-- SET_PLAN (R19, R22, R23). -/
def execSetPlan (p : Port) (plan : Plan) (s : State) : Host.Outcome State Fault Refusal :=
  request p s fun s =>
    if (s.port p).slot.isRunning then s.answer p 0x38 .busy []
    else if planValid s.nextFramePeriod plan then
      let s1 := s.supersede
      ({ s1 with frame := { s1.frame with pendingPlan := some { plan, issuer := p } } }.startTask p .setPlan).answer
        p 0x38 .taken []
    else s.answer p 0x38 .badValue []

/-- READ_PLAN (R165). -/
def execReadPlan (p : Port) (which : Byte) (s : State) : Host.Outcome State Fault Refusal :=
  request p s fun s =>
    if which = 0 then
      s.answer p 0x39 .ok (u16 s.settings.timing.framePeriod ++ flag s.frame.pendingPlan.isSome ++ planBytes s.frame.activePlan)
    else if which = 1 then
      match s.frame.pendingPlan with
      | some q => s.answer p 0x39 .ok (portByte (some q.issuer) ++ planBytes q.plan)
      | none => s.answer p 0x39 .rejected []
    else s.answer p 0x39 .badValue []

end Sys2Proof.Machine
end

