-- ==== Sys2Proof/Machine/SettingsRequests.lean ====
section
/-! DEFINITION. The requests on the shared settings: SET_GRID, SET_TIMING, SET_PROFILE, SET_PRESSURE, SET_TRACKING, SET_MAP_ROW, SET_KEY_COMBO, READ_MAP_ROW, READ_SETTINGS. -/

namespace Sys2Proof.Machine

/-- The byte that says whether a change was applied at once or is pending (R139, log entry 10). -/
def appliedByte (atOnce : Bool) : List Byte := u8 (if atOnce then 0 else 1)

/-- A taken settings request: the change waits or is applied, and the answer reports the item's fields, the flag and
SettingsEpoch (R139, R140, R142). -/
def State.changeSetting (s : State) (p : Port) (code : Byte) (w : Waiting) (fields : List Byte) : State :=
  let s1 := s.takeSetting w
  s1.answer p code .ok (fields ++ appliedByte (s.control.mode == .held) ++ u16 s1.epoch.toNat)

/-- SET_GRID (R145). -/
def execSetGrid (p : Port) (x y : Byte) (s : State) : Host.Outcome State Fault Refusal :=
  request p s fun s =>
    match gridOf x y with
    | none => s.answer p 0x40 .badValue []
    | some g =>
      if s.control.mode = .held then
        let s1 := s.applyGrid p g.1 g.2
        s1.answer p 0x40 .ok (gridBytes s1.settings ++ appliedByte true ++ u16 s1.epoch.toNat)
      else s.answer p 0x40 .rejected []

/-- A FramePeriod fits the Active Plan and the Pending Plan (R144). -/
def State.periodFits (s : State) (framePeriod : Nat) : Bool :=
  planFits framePeriod s.frame.activePlan
    && (match s.frame.pendingPlan with
      | some q => planFits framePeriod q.plan
      | none => true)

/-- SET_TIMING (R144). -/
def execSetTiming (p : Port) (framePeriod : Half) (mode ratio : Byte) (s : State) : Host.Outcome State Fault Refusal :=
  request p s fun s =>
    match timingOf framePeriod mode ratio with
    | none => s.answer p 0x41 .badValue []
    | some t =>
      if s.periodFits t.framePeriod then
        s.changeSetting p 0x41 { s.waiting with timing := some { value := t, port := p } } (timingBytes t)
      else s.answer p 0x41 .rejected []

/-- A profile as it will stand at the next frame start (R36). -/
def State.nextProfile (s : State) (i : Fin 4) : Profile := takeChange s.settings.profiles[i] s.waiting.profiles[i]

/-- Profile `i` written as `f` would leave two enabled profiles with the same TipFreq (R36). -/
def State.tipFreqClash (s : State) (i : Fin 4) (f : Profile) : Bool :=
  f.enabled && (([0, 1, 2, 3] : List (Fin 4)).any fun j =>
    j != i && (s.nextProfile j).enabled && (s.nextProfile j).tipFreq == f.tipFreq)

/-- SET_PROFILE (R36). -/
def execSetProfile (p : Port) (index : Byte) (a : ProfileArgs) (s : State) : Host.Outcome State Fault Refusal :=
  request p s fun s =>
    match indexOf 4 index, profileOf a with
    | some i, some f =>
      if s.tipFreqClash i f then s.answer p 0x42 .rejected []
      else
        s.changeSetting p 0x42 { s.waiting with profiles := s.waiting.profiles.set i (some { value := f, port := p }) }
          (profileBytes f)
    | _, _ => s.answer p 0x42 .badValue []

/-- SET_PRESSURE (R78, R80). -/
def execSetPressure (p : Port) (a : PressureArgs) (s : State) : Host.Outcome State Fault Refusal :=
  request p s fun s =>
    match pressureOf a with
    | none => s.answer p 0x43 .badValue []
    | some k => s.changeSetting p 0x43 { s.waiting with pressure := some { value := k, port := p } } (pressureBytes k)

/-- SET_TRACKING (R139). -/
def execSetTracking (p : Port) (a : TrackingArgs) (s : State) : Host.Outcome State Fault Refusal :=
  request p s fun s =>
    match trackingOf a with
    | none => s.answer p 0x44 .badValue []
    | some k => s.changeSetting p 0x44 { s.waiting with tracking := some { value := k, port := p } } (trackingBytes k)

/-- SET_MAP_ROW (R146). -/
def execSetMapRow (p : Port) (row : Byte) (nodes : Vector NodeArgs 9) (s : State) : Host.Outcome State Fault Refusal :=
  request p s fun s =>
    match indexOf 7 row with
    | none => s.answer p 0x45 .badValue []
    | some j =>
      s.changeSetting p 0x45
        { s.waiting with map := s.waiting.map.set j (some { value := mapRowOf nodes, port := p }) } (rowBytes (mapRowOf nodes))

/-- SET_KEY_COMBO (R173). -/
def execSetKeyCombo (p : Port) (combo : Byte) (s : State) : Host.Outcome State Fault Refusal :=
  request p s fun s =>
    match keyComboOf combo with
    | none => s.answer p 0x46 .badValue []
    | some k => s.changeSetting p 0x46 { s.waiting with combo := some { value := k, port := p } } (u8 k.num)

/-- READ_MAP_ROW (R147). -/
def execReadMapRow (p : Port) (row : Byte) (s : State) : Host.Outcome State Fault Refusal :=
  request p s fun s =>
    match indexOf 7 row with
    | none => s.answer p 0x48 .badValue []
    | some j => s.answer p 0x48 .ok (rowBytes s.settings.map[j] ++ flag s.waiting.map[j].isSome)

/-- The pending state of every item of the store, in the order of R138; the Grid never has one (R147). -/
def Waiting.bytes (w : Waiting) : List Byte :=
  waitingBytes (none : Option (Change (Nat × Nat))) ++ waitingBytes w.timing ++ w.profiles.toList.flatMap waitingBytes
    ++ waitingBytes w.pressure ++ waitingBytes w.tracking ++ w.map.toList.flatMap waitingBytes ++ waitingBytes w.combo

/-- The payload of Read Settings (R147, log entry 9). -/
def State.settingsPayload (s : State) : List Byte :=
  gridBytes s.settings ++ timingBytes s.settings.timing ++ s.settings.profiles.toList.flatMap profileBytes
    ++ pressureBytes s.settings.pressure ++ trackingBytes s.settings.tracking ++ u8 s.settings.combo.num
    ++ s.waiting.bytes ++ u16 s.epoch.toNat

/-- READ_SETTINGS (R147). -/
def execReadSettings (p : Port) (s : State) : Host.Outcome State Fault Refusal :=
  request p s fun s => s.answer p 0x49 .ok s.settingsPayload

end Sys2Proof.Machine
end

