-- ==== Sys2Proof/Machine/Modes.lean ====
section
/-! DEFINITION. The requests on the mode, the capture and the port: HOLD_SCAN, RESUME_SCAN, COIL_SURVEY, READ_CAPTURE, PORT_RESET; and AUTO_RESUME_EXPIRY. -/

namespace Sys2Proof.Machine

/-- The hold begins: HOLDING with this port as owner, its ResumeDelay recorded, the task started (R149). -/
def State.beginHold (s : State) (p : Port) (delay : Byte) : State :=
  ({ s with control := { s.control with survey := none, resumeDelay := delay.toNat } }.changeMode .holding (some p)).startTask
    p .holdScan

/-- The other port's waiting survey is cancelled (R149). -/
def State.cancelWaiting (s : State) : State :=
  match s.control.reservation with
  | some r => s.dropReservation.completeTask r.port .coilSurvey .cancelled
  | none => s

/-- The active survey is cancelled; the mode is the caller's (R149, R157). -/
def State.cancelActive (s : State) : State :=
  match s.control.owner with
  | some q => s.completeTask q .coilSurvey .cancelled
  | none => s

/-- HOLD_SCAN (R149). -/
def execHoldScan (p : Port) (delay : Byte) (s : State) : Host.Outcome State Fault Refusal :=
  request p s fun s =>
    if (s.port p).slot.isRunning then s.answer p 0x50 .busy []
    else
      match s.control.mode with
      | .scanning => (s.cancelWaiting.beginHold p delay).answer p 0x50 .taken []
      | .survey => (s.cancelActive.beginHold p delay).answer p 0x50 .taken []
      | .holding | .held | .starting => s.answer p 0x50 .rejected []

/-- The hold ends with the scan resumed and ModeChanged at both ports (R151, R152). -/
def State.endHeld (s : State) : State := (s.backToScanning.raiseBoth .modeChanged).resume

/-- RESUME_SCAN (R152). -/
def execResumeScan (p : Port) (s : State) : Host.Outcome State Fault Refusal :=
  request p s fun s =>
    if s.control.mode = .held then
      if s.control.owner = some p then s.endHeld.answer p 0x51 .ok [] else s.answer p 0x51 .notOwner []
    else s.answer p 0x51 .rejected []

/-- AUTO_RESUME_EXPIRY (R151): with the timer stopped it does not occur (log entry 3). -/
def execAutoResumeExpiry (s : State) : Host.Outcome State Fault Refusal :=
  match s.control.autoResume with
  | some t =>
    if s.control.mode = .held then .next (s.until t (s.control.resumeDelay * Config.resumeUnit)).endHeld else .next s
  | none => .next s

/-- The survey a Coil Survey's arguments name; for BASELINE the Profile is not checked and 0 is recorded (R154). -/
def surveyOf (kind profile : Byte) : Option (SurveyKind × Fin 4) :=
  match surveyKindOf kind with
  | some .baseline => some (.baseline, 0)
  | some .response => (indexOf 4 profile).map fun i => (.response, i)
  | none => none

/-- COIL_SURVEY (R154). -/
def execCoilSurvey (p : Port) (kind profile : Byte) (s : State) : Host.Outcome State Fault Refusal :=
  request p s fun s =>
    if (s.port p).slot.isRunning then s.answer p 0x52 .busy []
    else
      match surveyOf kind profile with
      | none => s.answer p 0x52 .badValue []
      | some v =>
        if s.control.mode ≠ .scanning then s.answer p 0x52 .rejected []
        else if s.control.reservation.isSome then s.answer p 0x52 .rejected []
        else if s.control.capture.isSome then s.answer p 0x52 .locked []
        else
          ({ s with control := { s.control with reservation := some { port := p, kind := v.1, profile := v.2 } } }.startTask
            p .coilSurvey).answer p 0x52 .taken []

/-- The payload of Read Capture from `offset` on, at most `count` entries (R159). -/
def Capture.payload (c : Capture) (offset count : Nat) : List Byte :=
  u8 c.kind.num ++ u8 c.profile.val ++ u8 c.xCount ++ u8 c.yCount ++ u16 c.stamp.toNat ++ u8 c.entries.length
    ++ ((c.entries.drop offset).take count).flatMap u16

/-- The Capture Buffer is emptied and unlocked (R158). -/
def State.emptyCapture (s : State) : State := { s with control := { s.control with capture := none } }

/-- READ_CAPTURE (R159). -/
def execReadCapture (p : Port) (offset count unlock : Byte) (s : State) : Host.Outcome State Fault Refusal :=
  request p s fun s =>
    match flagOf unlock with
    | none => s.answer p 0x53 .badValue []
    | some release =>
      if Config.maxCaptureOffset < offset.toNat ∨ count = 0 then s.answer p 0x53 .badValue []
      else
        match s.control.capture with
        | none => s.answer p 0x53 .rejected []
        | some c =>
          if release ∧ c.owner ≠ p then s.answer p 0x53 .notOwner []
          else if c.entries.length ≤ offset.toNat then s.answer p 0x53 .badValue []
          else
            (if release then s.emptyCapture else s).answer p 0x53 .ok
              (c.payload offset.toNat (clampNat 1 Config.maxCaptureCount count.toNat))

/-- What a Port Reset does to the port's own items (R136). The answer store is the answer's. -/
def PortState.resetTo (ps : PortState) (c : Settings) (nextSeq : BitVec 16) : PortState :=
  { ps with
    cursor := nextSeq
    watermark := 8
    view := defaultView c.xSpan c.ySpan
    events := 0
    mask := defaultMask
    tickPoint := .off
    tickPending := false
    list0 := []
    list1 := []
    slot := .empty }

/-- The mode that the resetting port owns ends; ModeChanged is raised at the other port only (R136, R153, R157). -/
def State.resetMode (s : State) (p : Port) : State :=
  if s.control.owner = some p then
    let s1 := s.backToScanning.raise .modeChanged p.other
    match s.control.mode with
    | .held => s1.resume
    | .holding | .survey => s1
    | .starting | .scanning => s
  else s

/-- The Capture Buffer is emptied when port `p` owns it (R136). -/
def State.resetCapture (s : State) (p : Port) : State :=
  if s.control.capture.map (·.owner) = some p then s.emptyCapture else s

/-- PORT_RESET (R136). -/
def execPortReset (p : Port) (s : State) : Host.Outcome State Fault Refusal :=
  request p s fun s =>
    let s1 := s.setPort p ((s.port p).resetTo s.settings s.nextSeq)
    ((((s1.dropPlanOf p).dropReservationOf p).resetCapture p).resetMode p).answer p 0x70 .ok []

end Sys2Proof.Machine
end

