-- ==== Sys2Proof/Machine/Restarts.lean ====
section
/-! DEFINITION. Restarts (chapter 12.1, 12.2): COLD_RESTART, WARM_RESTART, POWER_ON, RESET_N_LOW, RESET_N_RISE, STARTING_END, POWER_FAIL; and the bezel keys (chapter 12.3, 12.4): KEY_SAMPLE, KEY_RESTART_HOLD_EXPIRY. -/

namespace Sys2Proof.Machine

/-! ## The restart as one event (R170) -/

/-- The sync state after a restart (R13). -/
def syncAtRestart (m : SyncMode) : SyncState :=
  match m with
  | .free => .free
  | .locked => .seeking

/-- A port after a restart: everything but view, mask and watermark at its start-up value (R170). The bytes last sent
are the model's own and stay. -/
def PortState.restarted (ps : PortState) : PortState :=
  { defaultPort with view := ps.view, mask := ps.mask, watermark := ps.watermark, sent := ps.sent }

/-- A port after a restart that returns everything to its default (R170). -/
def PortState.restartedCold (ps : PortState) : PortState := { defaultPort with sent := ps.sent }

/-- The part after a warm restart begins: settings, SettingsEpoch, Active Plan, views, masks, watermarks and the Key
Monitor are kept (R170). -/
def State.restartWarm (s : State) : State :=
  { s with
    pins := { s.pins with startup := some 0 }
    frame := restFrame s.frame.activePlan (syncAtRestart s.settings.timing.syncMode)
    search := sweepFrom (lowestEnabled s.settings.profiles)
    tool0 := vacantTool
    tool1 := vacantTool
    ring := []
    nextSeq := 0
    snap0 := vacantSnapshot
    snap1 := vacantSnapshot
    waiting := noWaiting
    control := restControl
    portS := s.portS.restarted
    portD := s.portD.restarted }

/-- The part after a cold restart begins: every default; the Key Monitor is kept, its hold timer judged against the
combination NONE (R170, R173). At the very instant of the hold timer's expiry R171 and R174 would let the expiry restart
warm again with the timer SPENT; that the change to NONE stops the timer first, so that the expiry has no effect, is
this model's choice (log entry 25). -/
def State.restartCold (s : State) : State :=
  { s with
    pins := { s.pins with startup := some 0 }
    frame := restFrame defaultPlan .free
    search := sweepFrom (lowestEnabled defaultProfiles)
    tool0 := vacantTool
    tool1 := vacantTool
    ring := []
    nextSeq := 0
    snap0 := vacantSnapshot
    snap1 := vacantSnapshot
    settings := defaultSettings
    waiting := noWaiting
    epoch := 0
    control := restControl
    portS := s.portS.restartedCold
    portD := s.portD.restartedCold
    keys := if s.settings.combo = defaultSettings.combo then s.keys
      else { s.keys with hold := judgedHold s.keys defaultSettings.combo } }

/-- The part after a power-on restart begins: a cold restart that also resets the Key Monitor (R169). -/
def State.restartPowerOn (s : State) : State := { s.restartCold with keys := restKeys }

/-- The part held at the restart, by RESET_N low or without power: its state is that of a power-on and the start-up
timer does not run (R169, log entry 7). -/
def State.heldAtRestart (s : State) : State :=
  let s1 := s.restartPowerOn
  { s1 with pins := { s1.pins with startup := none } }

/-- COLD_RESTART (R167). -/
def execColdRestart (p : Port) (s : State) : Host.Outcome State Fault Refusal :=
  request p s fun s => s.restartCold.drivesZero p

/-- WARM_RESTART (R167). -/
def execWarmRestart (p : Port) (s : State) : Host.Outcome State Fault Refusal :=
  request p s fun s => s.restartWarm.drivesZero p

/-- POWER_ON: with RESET_N high a power-on restart begins; with RESET_N low the part is held (R169). -/
def execPowerOn (s : State) : Host.Outcome State Fault Refusal :=
  let s1 := { s with pins := { s.pins with power := true } }
  .next (if s.pins.resetN then s1.restartPowerOn else s1.heldAtRestart)

/-- RESET_N_LOW: everything is abandoned and the part is held (R169). -/
def execResetNLow (s : State) : Host.Outcome State Fault Refusal :=
  .next { s with pins := { s.pins with resetN := false } }.heldAtRestart

/-- RESET_N_RISE: a power-on restart begins, STARTING running from this edge (R169); without power only the level
changes. -/
def execResetNRise (s : State) : Host.Outcome State Fault Refusal :=
  let s1 := { s with pins := { s.pins with resetN := true } }
  .next (if s.pins.power then s1.restartPowerOn else s1)

/-- POWER_FAIL: all of the part's state is lost (R171, log entry 7). -/
def execPowerFail (s : State) : Host.Outcome State Fault Refusal :=
  .next { s with pins := { s.pins with power := false } }.heldAtRestart

/-- STARTING_END (R171): SCANNING with no owner, Restarted at both ports, the first frame starts. With the start-up
timer not running it does not occur (log entry 3). -/
def execStartingEnd (s : State) : Host.Outcome State Fault Refusal :=
  match s.pins.startup with
  | some t =>
    let s1 := s.until t Config.startingTime
    let s2 := { s1 with
      pins := { s1.pins with startup := none }
      control := { s1.control with mode := .scanning, owner := none } }
    .next (s2.raiseBoth .restarted).frameStart
  | none => .next s

/-! ## The bezel keys -/

/-- The level of a key that this sample accepts, when it accepts a change (R172). -/
def Key.accepts (k : Key) (sample : Bool) : Bool := k.previous == some sample && sample != k.accepted

/-- A key after a sample (R172). -/
def Key.sampled (k : Key) (sample : Bool) : Key :=
  { accepted := if k.accepts sample then sample else k.accepted, previous := some sample }

/-- The hold timer after the acceptance of a level of key number `i` (R173); `k` already holds that level. -/
def holdAfterAcceptance (k : Keys) (combo : KeyCombo) (i : Nat) (pressed : Bool) : HoldTimer :=
  if i < combo.size then
    match k.hold with
    | .stopped => if k.allPressed combo then .running 0 else .stopped
    | .running t => if pressed then .running t else .stopped
    | .spent => if pressed then .spent else .stopped
  else k.hold

/-- Key number `i` of the Key Monitor. -/
def Keys.key (k : Keys) : Fin 4 → Key
  | 0 => k.key0
  | 1 => k.key1
  | 2 => k.key2
  | 3 => k.key3

/-- The Key Monitor with key number `i` replaced. -/
def Keys.setKey (k : Keys) (i : Fin 4) (key : Key) : Keys :=
  match i with
  | 0 => { k with key0 := key }
  | 1 => { k with key1 := key }
  | 2 => { k with key2 := key }
  | 3 => { k with key3 := key }

/-- One key is taken at a sample instant (R172, R173). -/
def Keys.take (k : Keys) (combo : KeyCombo) (i : Fin 4) (sample : Bool) : Keys :=
  let k1 := k.setKey i ((k.key i).sampled sample)
  if (k.key i).accepts sample then { k1 with hold := holdAfterAcceptance k1 combo i.val sample } else k1

/-- A sample of all four keys, taken in turn (R172). -/
def Keys.sample (k : Keys) (combo : KeyCombo) (a b c d : Bool) : Keys :=
  { (((k.take combo 0 a).take combo 1 b).take combo 2 c).take combo 3 d with pace := 0 }

/-- KEY_SAMPLE (R172, R173). The Key Monitor does not sample while RESET_N is low or power is off (R169). -/
def execKeySample (k0 k1 k2 k3 : Bool) (s : State) : Host.Outcome State Fault Refusal :=
  if s.pins.power && s.pins.resetN then
    let s1 := s.until s.keys.pace Config.keySampleTime
    let changed := s.keys.key0.accepts k0 || s.keys.key1.accepts k1 || s.keys.key2.accepts k2 || s.keys.key3.accepts k3
    .next ({ s1 with keys := s1.keys.sample s.settings.combo k0 k1 k2 k3 }.raiseBothIf changed .keyChange)
  else .next s

/-- KEY_RESTART_HOLD_EXPIRY (R174): the timer becomes SPENT and a warm restart begins, in STARTING too (R171). With
the timer not running it does not occur (log entry 3), as after a Cold Restart taken first at its instant (log entry 25). -/
def execKeyRestartHoldExpiry (s : State) : Host.Outcome State Fault Refusal :=
  match s.keys.hold with
  | .running t =>
    let s1 := s.until t Config.keyRestartTime
    .next { s1 with keys := { s1.keys with hold := .spent } }.restartWarm
  | .stopped | .spent => .next s

end Sys2Proof.Machine
end

