-- ==== Sys2Proof/Machine/Results.lean ====
section
/-! DEFINITION. The requests that read results: READ_SAMPLES, SKIP_TO_NEWEST, READ_LATEST, READ_STATUS. -/

namespace Sys2Proof.Machine

/-- The records from a port's cursor on, at most `r` (R108). -/
def State.readable (s : State) (p : Port) (r : Nat) : List Sample := (s.ring.drop (s.ring.length - s.backlog p)).take r

/-- How many records a Read Samples with a count above 0 returns (R108). -/
def State.readCount (s : State) (p : Port) (count : Byte) : Nat :=
  min (clampNat 1 Config.maxReadCount count.toNat) (s.backlog p)

/-- The payload of a taken Read Samples that returns `r` records (R108, R179). -/
def State.samplesPayload (s : State) (p : Port) (r : Nat) : List Byte :=
  u8 r ++ u16 (s.backlog p - r) ++ (s.readable p r).flatMap (sampleBytes s.settings (s.port p).view)

/-- A port's cursor moves on by `r` (R105). -/
def State.advanceCursor (s : State) (p : Port) (r : Nat) : State :=
  s.setPort p { s.port p with cursor := (s.port p).cursor + BitVec.ofNat 16 r }

/-- READ_SAMPLES (R108). -/
def execReadSamples (p : Port) (count : Byte) (s : State) : Host.Outcome State Fault Refusal :=
  request p s fun s =>
    if count = 0 then s.answer p 0x10 .badValue []
    else
      let r := s.readCount p count
      (s.advanceCursor p r).answer p 0x10 .ok (s.samplesPayload p r)

/-- SKIP_TO_NEWEST (R110). -/
def execSkipToNewest (p : Port) (s : State) : Host.Outcome State Fault Refusal :=
  request p s fun s =>
    (s.setPort p { s.port p with cursor := s.nextSeq }).answer p 0x11 .ok (u16 (s.backlog p) ++ u16 s.nextSeq.toNat)

/-- The payload of Read Latest (R113, R180). -/
def State.latestPayload (s : State) (p : Port) : List Byte :=
  let v := (s.port p).view
  snapshotBytes s.settings v s.snap0 (predicted s.settings v.lead s.tool0)
    ++ snapshotBytes s.settings v s.snap1 (predicted s.settings v.lead s.tool1) ++ u16 s.nextSeq.toNat

/-- READ_LATEST (R113). -/
def execReadLatest (p : Port) (s : State) : Host.Outcome State Fault Refusal :=
  request p s fun s => s.answer p 0x12 .ok (s.latestPayload p)

/-- Survey progress, present in SURVEY (R163). -/
def State.surveyBytes (s : State) : List Byte :=
  match s.control.survey with
  | some v => flag true ++ u8 v.frames ++ u8 v.bx ++ u8 v.byy ++ flag v.xDone ++ flag v.yDone
  | none => flag false ++ u8 0 ++ u8 0 ++ u8 0 ++ flag false ++ flag false

/-- State, Profile and ReleaseMark of a tool (R163). -/
def toolStatusBytes (t : Tool) : List Byte := u8 t.state.num ++ u8 t.profile.val ++ flag t.releaseMark

/-- The payload of Read Status, item by item in the order of R163 (log entry 9). -/
def State.statusPayload (s : State) (p : Port) : List Byte :=
  u8 s.control.mode.num ++ portByte s.control.owner ++ portByte (s.control.reservation.map (·.port))
    ++ s.surveyBytes
    ++ flag s.control.autoResume.isSome
    ++ flag s.control.capture.isSome ++ portByte (s.control.capture.map (·.owner))
    ++ u32 s.frame.count.toNat ++ u16 s.settings.timing.framePeriod
    ++ u8 s.frame.sync.num
    ++ flag s.frame.lastFrame.isSome ++ u16 (s.frame.lastFrame.getD 0).toNat
    ++ s.frame.lastOutcomes.toList.flatMap (fun o => u8 o.num)
    ++ flag s.frame.pendingPlan.isSome ++ portByte (s.frame.pendingPlan.map (·.issuer))
    ++ u8 s.frame.noiseAxis.num ++ u8 s.frame.noiseBand ++ u16 s.frame.noiseFloor ++ u16 s.effAcquire ++ u16 s.effHold
    ++ u8 s.search.phase.num ++ u8 s.search.profile.val ++ u8 s.search.band
    ++ toolStatusBytes s.tool0 ++ toolStatusBytes s.tool1
    ++ u16 (s.port p).cursor.toNat ++ u16 s.nextSeq.toNat ++ u16 (s.backlog p)

/-- READ_STATUS (R163). -/
def execReadStatus (p : Port) (s : State) : Host.Outcome State Fault Refusal :=
  request p s fun s => s.answer p 0x13 .ok (s.statusPayload p)

end Sys2Proof.Machine
end

