-- ==== Sys2Proof/Machine/ScanEvents.lean ====
section
/-! DEFINITION. The events of the scan: SCHEDULED_FRAME_START, MID_POINT, DSYNC, SYNC_TIMER_EXPIRY, SLOT_BEGIN, DRIVE_BUSY_FALL, DRIVE_BUSY_RISE, SLIP_EXPIRY, EXCITATION_END, LISTEN_END. A timed event whose timer does not run does not occur and leaves the state (log entry 3). -/

namespace Sys2Proof.Machine

/-- SCHEDULED_FRAME_START (R8, R9), in the TAIL or RUNNING (log entry 4). -/
def execScheduledFrameStart (s : State) : Host.Outcome State Fault Refusal :=
  match s.frame.phase with
  | .stopped => .next s
  | .tail | .running => .next (s.untilFrame s.settings.timing.framePeriod).frameStart

/-- MID_POINT (R10). -/
def execMidPoint (s : State) : Host.Outcome State Fault Refusal :=
  match s.frame.phase with
  | .stopped => .next s
  | .tail | .running =>
    if s.frame.midDone then .next s
    else
      let s1 := s.untilFrame (s.settings.timing.framePeriod / 2)
      .next ({ s1 with frame := { s1.frame with midDone := true } }.tickBoth .midFrame)

/-- DSYNC (R14, R15): ignored in STARTING and HELD. -/
def execDsync (s : State) : Host.Outcome State Fault Refusal :=
  match s.control.mode with
  | .starting | .held => .next s
  | .scanning | .holding | .survey => .next s.dsyncPulse

/-- SYNC_TIMER_EXPIRY (R16). -/
def execSyncTimerExpiry (s : State) : Host.Outcome State Fault Refusal :=
  match s.frame.syncTimer with
  | some t => .next (s.until t s.settings.timing.expiry).syncExpire
  | none => .next s

/-- SLOT_BEGIN (R26): the next slot of a RUNNING frame, with no slot under way. -/
def execSlotBegin (s : State) : Host.Outcome State Fault Refusal :=
  if s.frame.phase = .running ∧ s.frame.run = .none then
    if h : s.frame.next < 8 then .next (s.beginSlot ⟨s.frame.next, h⟩) else .next s
  else .next s

/-- DRIVE_BUSY_FALL (R27): a waiting slot begins its excitation, when the fall is no later than Start + Slip. -/
def execDriveBusyFall (s : State) : Host.Outcome State Fault Refusal :=
  let s1 := { s with pins := { s.pins with driveBusy := false } }
  match s.frame.run with
  | .waiting k j =>
    .next (if s.frame.timer ≤ (s.frame.slotTimes k).start + (s.frame.slotTimes k).slip then s1.beginRun k j else s1)
  | .none | .exciting .. | .listening .. => .next s1

/-- DRIVE_BUSY_RISE (R29): a guarded slot in excitation or listening ends CUT. -/
def execDriveBusyRise (s : State) : Host.Outcome State Fault Refusal :=
  let s1 := { s with pins := { s.pins with driveBusy := true } }
  match s.frame.run with
  | .exciting k _ _ | .listening k _ _ => .next (if (s.frame.slotTimes k).guarded then s1.endSlot k .cut else s1)
  | .none | .waiting .. => .next s1

/-- SLIP_EXPIRY (R27): a waiting slot ends SKIPPED. -/
def execSlipExpiry (s : State) : Host.Outcome State Fault Refusal :=
  match s.frame.run with
  | .waiting k _ =>
    .next ((s.untilFrame ((s.frame.slotTimes k).start + (s.frame.slotTimes k).slip)).endSlot k .skipped)
  | .none | .exciting .. | .listening .. => .next s

/-- EXCITATION_END (R28): the listen phase begins. -/
def execExcitationEnd (s : State) : Host.Outcome State Fault Refusal :=
  match s.frame.run with
  | .exciting k j since =>
    let s1 := s.untilFrame (since + (s.frame.slotTimes k).excite)
    .next { s1 with frame := { s1.frame with run := .listening k j since } }
  | .none | .waiting .. | .listening .. => .next s

/-- LISTEN_END (R28): the slot ends DONE and its observation goes to its consumer. -/
def execListenEnd (r : Reading) (s : State) : Host.Outcome State Fault Refusal :=
  match s.frame.run with
  | .listening k j since =>
    .next (((s.untilFrame (since + (s.frame.slotTimes k).excite + (s.frame.slotTimes k).listen)).handOn j r).endSlot k .done)
  | .none | .waiting .. | .exciting .. => .next s

end Sys2Proof.Machine
end

