-- ==== Sys2Proof/Machine/Transactions.lean ====
section
/-! DEFINITION. The transactions that are no taken request, and the answer's forming: FETCH_RESPONSE, UNKNOWN_CODE, BAD_LENGTH, ANSWER_READY. -/

namespace Sys2Proof.Machine

/-- The frame of a Fetch Response for the store and the mode (R124, R178). -/
def State.responseFrame (s : State) (p : Port) : List Byte :=
  if s.control.mode = .starting then frameBytes 1 0 0 []
  else
    match (s.port p).store with
    | .none => frameBytes 2 0 0 []
    | .notReady a => frameBytes 3 a.code 0 []
    | .ready a => answerFrame a

/-- The store after a Fetch Response that clocked out `clocked` bytes of its frame (R124). -/
def State.storeAfterFetch (s : State) (p : Port) (clocked : Nat) : Store :=
  if s.control.mode = .starting then (s.port p).store
  else
    match (s.port p).store with
    | .ready a => if (answerFrame a).length ≤ clocked then .none else .ready a
    | .notReady a => .notReady a
    | .none => .none

/-- The bytes that a Fetch Response drives after its code byte: the frame's, then 0 in every byte clocked past its end
(R124, R178). -/
def clockedBytes (frame : List Byte) (clocked : Nat) : List Byte := (List.range clocked).map fun k => frame.getD k 0

/-- FETCH_RESPONSE (R124), at the instant at which its code byte has arrived, `clocked` bytes of clock following (log
entry 18). Without power the part answers nothing. -/
def execFetchResponse (p : Port) (clocked : Nat) (s : State) : Host.Outcome State Fault Refusal :=
  if s.pins.power then
    .next (s.setPort p { s.port p with
      store := s.storeAfterFetch p clocked, sent := clockedBytes (s.responseFrame p) clocked })
  else .next (s.drivesZero p)

/-- UNKNOWN_CODE (R122). -/
def execUnknownCode (p : Port) (code : Byte) (s : State) : Host.Outcome State Fault Refusal :=
  request p s fun s => s.answer p code .unknown []

/-- BAD_LENGTH (R122). -/
def execBadLength (p : Port) (code : Byte) (s : State) : Host.Outcome State Fault Refusal :=
  request p s fun s => s.answer p code .badLength []

/-- The store once its answer is formed (R123). -/
def Store.formed : Store → Store
  | .notReady a => .ready a
  | .ready a => .ready a
  | .none => .none

/-- ANSWER_READY (R123). -/
def execAnswerReady (p : Port) (s : State) : Host.Outcome State Fault Refusal :=
  .next (s.setPort p { s.port p with store := (s.port p).store.formed })

end Sys2Proof.Machine
end

