-- ==== Sys2Proof/Machine/Dispatch.lean ====
section
/-! DEFINITION. exec: the effect of each command on everything but the queue, one arm per command. -/

namespace Sys2Proof.Machine

def exec (i : Instr) (s : State) : Host.Outcome State Fault Refusal :=
  match i with
  | .readSamples p count => Sys2Proof.Machine.execReadSamples p count s
  | .skipToNewest p => Sys2Proof.Machine.execSkipToNewest p s
  | .readLatest p => Sys2Proof.Machine.execReadLatest p s
  | .readStatus p => Sys2Proof.Machine.execReadStatus p s
  | .readAttention p => Sys2Proof.Machine.execReadAttention p s
  | .setAttentionMask p mask => Sys2Proof.Machine.execSetAttentionMask p mask s
  | .setTick p point => Sys2Proof.Machine.execSetTick p point s
  | .ackTick p => Sys2Proof.Machine.execAckTick p s
  | .setView p a => Sys2Proof.Machine.execSetView p a s
  | .setWatermark p value => Sys2Proof.Machine.execSetWatermark p value s
  | .readTaskResult p => Sys2Proof.Machine.execReadTaskResult p s
  | .abortTask p => Sys2Proof.Machine.execAbortTask p s
  | .setPlan p plan => Sys2Proof.Machine.execSetPlan p plan s
  | .readPlan p which => Sys2Proof.Machine.execReadPlan p which s
  | .setGrid p xCount yCount => Sys2Proof.Machine.execSetGrid p xCount yCount s
  | .setTiming p framePeriod syncMode syncRatio => Sys2Proof.Machine.execSetTiming p framePeriod syncMode syncRatio s
  | .setProfile p index a => Sys2Proof.Machine.execSetProfile p index a s
  | .setPressure p a => Sys2Proof.Machine.execSetPressure p a s
  | .setTracking p a => Sys2Proof.Machine.execSetTracking p a s
  | .setMapRow p row nodes => Sys2Proof.Machine.execSetMapRow p row nodes s
  | .setKeyCombo p combo => Sys2Proof.Machine.execSetKeyCombo p combo s
  | .readMapRow p row => Sys2Proof.Machine.execReadMapRow p row s
  | .readSettings p => Sys2Proof.Machine.execReadSettings p s
  | .holdScan p resumeDelay => Sys2Proof.Machine.execHoldScan p resumeDelay s
  | .resumeScan p => Sys2Proof.Machine.execResumeScan p s
  | .coilSurvey p kind profile => Sys2Proof.Machine.execCoilSurvey p kind profile s
  | .readCapture p offset count unlock => Sys2Proof.Machine.execReadCapture p offset count unlock s
  | .portReset p => Sys2Proof.Machine.execPortReset p s
  | .coldRestart p => Sys2Proof.Machine.execColdRestart p s
  | .warmRestart p => Sys2Proof.Machine.execWarmRestart p s
  | .fetchResponse p clocked => Sys2Proof.Machine.execFetchResponse p clocked s
  | .unknownCode p code => Sys2Proof.Machine.execUnknownCode p code s
  | .badLength p code => Sys2Proof.Machine.execBadLength p code s
  | .answerReady p => Sys2Proof.Machine.execAnswerReady p s
  | .scheduledFrameStart => Sys2Proof.Machine.execScheduledFrameStart s
  | .midPoint => Sys2Proof.Machine.execMidPoint s
  | .dsync => Sys2Proof.Machine.execDsync s
  | .syncTimerExpiry => Sys2Proof.Machine.execSyncTimerExpiry s
  | .slotBegin => Sys2Proof.Machine.execSlotBegin s
  | .driveBusyFall => Sys2Proof.Machine.execDriveBusyFall s
  | .driveBusyRise => Sys2Proof.Machine.execDriveBusyRise s
  | .slipExpiry => Sys2Proof.Machine.execSlipExpiry s
  | .excitationEnd => Sys2Proof.Machine.execExcitationEnd s
  | .listenEnd r => Sys2Proof.Machine.execListenEnd r s
  | .autoResumeExpiry => Sys2Proof.Machine.execAutoResumeExpiry s
  | .powerOn => Sys2Proof.Machine.execPowerOn s
  | .resetNLow => Sys2Proof.Machine.execResetNLow s
  | .resetNRise => Sys2Proof.Machine.execResetNRise s
  | .startingEnd => Sys2Proof.Machine.execStartingEnd s
  | .keySample k0 k1 k2 k3 => Sys2Proof.Machine.execKeySample k0 k1 k2 k3 s
  | .keyRestartHoldExpiry => Sys2Proof.Machine.execKeyRestartHoldExpiry s
  | .powerFail => Sys2Proof.Machine.execPowerFail s

end Sys2Proof.Machine
end

