-- ==== Sys2Proof/Machine/FrontEnd.lean ====
section
/-! DEFINITION. The Coil Matrix and Front End (R2 to R4, R39, R55, R155): which coils the slot under way drives and at which frequency, and which coils it listens to. -/

namespace Sys2Proof.Machine

/-- A loop coil: its axis and its number on that axis. -/
structure Coil where
  axis : Axis
  number : Int
deriving DecidableEq, Repr

/-- The coils of band `b` of an axis, clipped at the last coil (R3). -/
def bandCoils (c : Settings) (axis : Axis) (b : Nat) : List Coil :=
  (bandList (c.coils axis) b).map fun k => { axis, number := k }

/-- The five coils of a window, centre − 2 to centre + 2 (R5). -/
def windowCoils (axis : Axis) (centre : Int) : List Coil :=
  [{ axis, number := centre - 2 }, { axis, number := centre - 1 }, { axis, number := centre }, { axis, number := centre + 1 },
    { axis, number := centre + 2 }]

/-- The frequency at which a slot drives, in kHz; none when it drives nothing (R4, R155). -/
def Job.frequency : Job → Option Nat
  | .track _ f _ _ => some f
  | .tilt _ f _ _ => some f
  | .code _ f _ => some f
  | .sweep f _ => some f
  | .locate f _ _ => some f
  | .noise _ _ => none
  | .survey .response f _ _ _ _ => some f
  | .survey .baseline _ _ _ _ _ => none

/-- The coils a slot drives in its excitation (R4, R39, R55, R155). -/
def Job.drives (c : Settings) : Job → List Coil
  | .track _ _ cx _ => [{ axis := .x, number := cx }]
  | .tilt _ _ cx _ => [{ axis := .x, number := cx }]
  | .code _ _ coil => [{ axis := .x, number := coil }]
  | .sweep _ b => bandCoils c .x b
  | .locate _ coil _ => [{ axis := .x, number := coil }]
  | .noise _ _ => []
  | .survey .response _ bx byy xDone yDone =>
    (if xDone then [] else bandCoils c .x bx) ++ (if yDone then [] else bandCoils c .y byy)
  | .survey .baseline _ _ _ _ _ => []

/-- The coils a slot listens to (R4, R39, R55, R155). -/
def Job.listens (c : Settings) : Job → List Coil
  | .track _ _ cx cy => windowCoils .x cx ++ windowCoils .y cy
  | .tilt _ _ cx cy => windowCoils .x cx ++ windowCoils .y cy
  | .code _ _ coil => [{ axis := .x, number := coil }]
  | .sweep _ b => bandCoils c .x b
  | .locate _ _ b => bandCoils c .y b
  | .noise axis b => bandCoils c axis b
  | .survey _ _ bx byy _ _ => bandCoils c .x bx ++ bandCoils c .y byy

/-- The coils driven at this instant: those of the slot in its excitation (R28). -/
def State.driving (s : State) : List Coil :=
  match s.frame.run with
  | .exciting _ j _ => j.drives s.settings
  | .none | .waiting .. | .listening .. => []

/-- The coils listened to at this instant: those of the slot in its listen phase (R28). -/
def State.listening (s : State) : List Coil :=
  match s.frame.run with
  | .listening _ j _ => j.listens s.settings
  | .none | .waiting .. | .exciting .. => []

/-- A coil of the grid in force (R2). -/
def Coil.exists (c : Settings) (k : Coil) : Bool := 0 ≤ k.number && decide (k.number < (c.coils k.axis : Int))

end Sys2Proof.Machine
end

