-- ==== Sys2Proof/Safety.lean ====
section
/-! DEFINITION. What a safe state of the part is: for each block, the relations between its fields that the spec says hold in every state. Each is a property that every step keeps and that State.reset has. -/

namespace Sys2Proof.Machine

/-! ## Frames of a step -/

/-- `t` is `s` but for what port `p` holds. -/
def OnlyPort (p : Port) (s t : State) : Prop := t = s.setPort p (t.port p)

/-- The store right after a request is taken: its answer, still being formed (R123). -/
def forming (code : Byte) (result : ResultCode) (payload : List Byte) : Store := .notReady { code, result, payload }

/-- A tool record whose profile's applied fields a change alters is marked for release; nothing else of it changes (R37). -/
def Marked (old new : Vector Profile 4) (t u : Tool) : Prop :=
  u = { t with releaseMark := t.releaseMark || (t.state != .vacant && new[t.profile] != old[t.profile]) }

/-- A change that port `p` took waits (R138, R143). -/
def Waiting.TakenOn (w : Waiting) (p : Port) : Prop :=
  w.timing.map (·.port) = some p ∨ (∃ i : Fin 4, w.profiles[i].map (·.port) = some p) ∨ w.pressure.map (·.port) = some p
    ∨ w.tracking.map (·.port) = some p ∨ (∃ j : Fin 7, w.map[j].map (·.port) = some p) ∨ w.combo.map (·.port) = some p

/-- What a frame start raises at port `p` (R24, R127, R133, R143); a survey that it begins raises ModeChanged too (R154). -/
structure FrameStartRaised (p : Port) (s t : State) : Prop where
  taskDone : Event.taskDone.isIn (t.port p).events = true ↔ Event.taskDone.isIn (s.port p).events = true
    ∨ (s.frame.pendingPlan.map (·.issuer) = some p ∧ (s.port p).slot = .running .setPlan)
  settingsChanged : Event.settingsChanged.isIn (t.port p).events = true ↔
    Event.settingsChanged.isIn (s.port p).events = true ∨ s.waiting.TakenOn p.other
  tickMissed : Event.tickMissed.isIn (t.port p).events = true ↔ Event.tickMissed.isIn (s.port p).events = true
    ∨ ((s.port p).tickPoint = .frameStart ∧ (s.port p).tickPending = true)
  others : ∀ e, e = .samplesWaiting ∨ e = .overrun ∨ e = .toolEnter ∨ e = .toolLeave ∨ e = .identityKnown ∨ e = .keyChange →
    Event.isIn e (t.port p).events = Event.isIn e (s.port p).events

/-- How the frame that has started is laid out: its survey window, or the slots of its plan (R31, R155). -/
structure LaidOut (t : State) : Prop where
  window : t.frame.window =
    if t.control.mode = .survey then
      t.control.survey.map fun v =>
        { kind := v.kind, profile := v.profile, bx := v.bx, byy := v.byy, xDone := v.xDone, yDone := v.yDone }
    else none
  slots : t.frame.window = none →
    (∀ k : Fin 8, t.frame.outcomes[k] = if t.frame.activePlan[k].function = 0 then some .idle else none)
    ∧ t.frame.next ≤ 8 ∧ ∀ k : Fin 8, (k.val < t.frame.next → t.frame.activePlan[k].function = 0)
        ∧ (k.val = t.frame.next → t.frame.activePlan[k].function ≠ 0)
  survey : t.frame.window ≠ none →
    t.frame.next = 0 ∧ ∀ k : Fin 8, t.frame.outcomes[k] = if k = 0 then none else some .idle

/-- What a frame start leaves, `s` before and `t` after it (R9, R12, R24, R31, R37, R133, R141, R143, R154, R157, R173). -/
structure FrameStarted (s t : State) : Prop where
  count : t.frame.count = s.frame.count + 1
  timer : t.frame.timer = 0 ∧ t.frame.midDone = false
  phase : t.frame.phase = .running
  clear : t.frame.run = .none ∧ t.frame.obs0 = noObs ∧ t.frame.obs1 = noObs
  plan : t.frame.activePlan = (s.frame.pendingPlan.map (·.plan)).getD s.frame.activePlan
  noPlan : t.frame.pendingPlan = none
  settings : t.settings = s.settings.applied s.waiting
  noChange : t.waiting = noWaiting
  epoch : t.epoch = if s.waiting.any then s.epoch + 1 else s.epoch
  tools : ∀ i, Marked s.settings.profiles t.settings.profiles (s.tool i) (t.tool i)
  stores : t.ring = s.ring ∧ t.nextSeq = s.nextSeq ∧ t.snap0 = s.snap0 ∧ t.snap1 = s.snap1
  ports : ∀ p, (t.port p).cursor = (s.port p).cursor ∧ (t.port p).watermark = (s.port p).watermark
    ∧ (t.port p).view = (s.port p).view ∧ (t.port p).mask = (s.port p).mask ∧ (t.port p).list0 = (s.port p).list0
    ∧ (t.port p).list1 = (s.port p).list1 ∧ (t.port p).store = (s.port p).store
  tick : ∀ p, (t.port p).tickPoint = (s.port p).tickPoint
    ∧ (t.port p).tickPending = ((s.port p).tickPending || (s.port p).tickPoint == .frameStart)
  task : ∀ p, (t.port p).slot =
    if s.frame.pendingPlan.map (·.issuer) = some p ∧ (s.port p).slot = .running .setPlan then .completed .setPlan .ok
    else (s.port p).slot
  mode : s.control.reservation = none ∨ s.control.mode ≠ .scanning →
    t.control.mode = s.control.mode ∧ t.control.owner = s.control.owner
  survey : ∀ r, s.control.reservation = some r → s.control.mode = .scanning →
    t.control.mode = .survey ∧ t.control.owner = some r.port ∧ t.control.reservation = none
      ∧ t.control.survey = some { kind := r.kind, profile := r.profile, frames := 1, bx := 0, byy := 0, xDone := false,
                                  yDone := false, xs := [], ys := [] }
      ∧ ∀ p, Event.modeChanged.isIn (t.port p).events = true
  counted : s.control.mode = .survey → t.control.survey = s.control.survey.map fun v => { v with frames := v.frames + 1 }
  unsurveyed : s.control.mode ≠ .survey → s.control.reservation = none ∨ s.control.mode ≠ .scanning →
    t.control.survey = s.control.survey ∧ t.control.reservation = s.control.reservation
  capture : t.control.capture = s.control.capture
  laidOut : LaidOut t
  search : t.search =
    if t.settings.profiles[s.search.profile] = s.settings.profiles[s.search.profile] then s.search
    else sweepFrom (if t.settings.profiles[s.search.profile].enabled then s.search.profile
      else nextEnabled t.settings.profiles s.search.profile)
  keys : t.keys = { s.keys with
    hold :=
      if t.settings.combo = s.settings.combo then s.keys.hold
      else if t.settings.combo = .none then .stopped
      else if s.keys.hold = .spent then .spent
      else if s.keys.allPressed t.settings.combo then .running 0 else .stopped }
  raised : s.control.mode ≠ .starting → ∀ p, FrameStartRaised p s t

/-- What every restart leaves, whatever its kind (R170, R171). -/
structure Restarted (t : State) : Prop where
  mode : t.control.mode = .starting ∧ t.control.owner = none ∧ t.control.reservation = none ∧ t.control.survey = none
  timers : t.control.autoResume = none ∧ t.frame.syncTimer = none ∧ t.pins.startup = some 0
  capture : t.control.capture = none
  frame : t.frame.phase = .stopped ∧ t.frame.run = .none ∧ t.frame.count = 0 ∧ t.frame.pendingPlan = none
  outcomes : t.frame.lastOutcomes = Vector.replicate 8 .idle
  noise : t.frame.noiseFloor = 0 ∧ t.frame.noiseAxis = .x ∧ t.frame.noiseBand = 0
  search : t.search = sweepFrom (lowestEnabled t.settings.profiles)
  waiting : t.waiting = noWaiting
  tools : ∀ i, t.tool i = vacantTool
  snaps : t.snap0 = vacantSnapshot ∧ t.snap1 = vacantSnapshot
  ring : t.ring = [] ∧ t.nextSeq = 0
  ports : ∀ p, (t.port p).cursor = 0 ∧ (t.port p).tickPoint = .off ∧ (t.port p).tickPending = false
    ∧ (t.port p).list0 = [] ∧ (t.port p).list1 = [] ∧ (t.port p).slot = .empty ∧ (t.port p).store = .none
    ∧ (t.port p).events = 0

/-! ## Sample Ring and cursors (R103 to R106) -/

/-- At most 512 records, in Seq order up to NextSeq − 1, and every cursor names a record of the ring or equals NextSeq. -/
structure RingOk (s : State) : Prop where
  capacity : s.ring.length ≤ Config.ringCapacity
  order : ∀ n, (h : n < s.ring.length) → (s.ring[n]).seq + BitVec.ofNat 16 (s.ring.length - n) = s.nextSeq
  backlog : ∀ p, s.backlog p ≤ s.ring.length

/-! ## Ports (R94, R95, R107, R131, R133, R181) -/

/-- A port's own items are in their ranges. -/
structure PortOk (ps : PortState) : Prop where
  watermark : 1 ≤ ps.watermark ∧ ps.watermark ≤ Config.ringCapacity
  masked : Event.restarted.isIn ps.mask = true
  maskEvents : ps.mask.toNat < 16384
  events : ps.events.toNat < 16384 ∧ Event.codeChange.isIn ps.events = false
  lists : ps.list0.length ≤ 2 ∧ ps.list1.length ≤ 2
  tick : ps.tickPoint = .off → ps.tickPending = false

/-- Both ports' own items are in their ranges. -/
def PortsOk (s : State) : Prop := ∀ p, PortOk (s.port p)

/-! ## Settings, plans and views (R2, R8, R13, R19, R34 to R36, R64, R78, R80, R86, R114) -/

/-- The counts are in their ranges (R2). -/
def GridOk (c : Settings) : Prop := 16 ≤ c.xCount ∧ c.xCount ≤ 96 ∧ 16 ≤ c.yCount ∧ c.yCount ≤ 60

/-- A Timing item in its ranges (R8, R13). -/
def TimingOk (t : Timing) : Prop :=
  1500 ≤ t.framePeriod ∧ t.framePeriod ≤ 10000 ∧ 1 ≤ t.syncRatio ∧ t.syncRatio ≤ 4

/-- A profile in its ranges (R35). -/
def ProfileOk (f : Profile) : Prop :=
  300 ≤ f.tipFreq ∧ f.tipFreq ≤ 900 ∧ 300 ≤ f.ringFreq ∧ f.ringFreq ≤ 900 ∧ f.ringFreq ≠ f.tipFreq
    ∧ f.nominalZero ≤ 1023 ∧ 64 ≤ f.phaseSpan ∧ f.phaseSpan ≤ 1023 ∧ 256 ≤ f.ringHeight ∧ f.ringHeight ≤ 4096

/-- A Tracking item in its ranges, HoldLevel at most AcquireLevel (R34, R139). -/
def TrackingOk (k : Tracking) : Prop :=
  k.acquire ≤ 4095 ∧ k.hold ≤ k.acquire ∧ 1 ≤ k.fadeFrames ∧ k.fadeFrames ≤ 16 ∧ 2 ≤ k.missLimit ∧ k.missLimit ≤ 32
    ∧ k.deadband ≤ 64 ∧ k.tiltLimit ≤ 900

/-- A map node in its range (R64). -/
def NodeOk (d : Pt) : Prop := -512 ≤ d.x ∧ d.x ≤ 511 ∧ -512 ≤ d.y ∧ d.y ≤ 511

/-- A map row in its range (R64). -/
def RowOk (r : MapRow) : Prop := ∀ i : Fin 9, NodeOk r[i]

/-- No two enabled profiles share a TipFreq (R36). -/
def TipsDiffer (profile : Fin 4 → Profile) : Prop :=
  ∀ i j, i ≠ j → (profile i).enabled = true → (profile j).enabled = true → (profile i).tipFreq ≠ (profile j).tipFreq

/-- A view whose area lies within the grid and whose numbers are in their ranges (R114). -/
def ViewOk (c : Settings) (v : View) : Prop :=
  0 ≤ v.x0 ∧ v.x0 < v.x1 ∧ v.x1 ≤ c.xSpan ∧ 0 ≤ v.y0 ∧ v.y0 < v.y1 ∧ v.y1 ≤ c.ySpan
    ∧ 1 ≤ v.width ∧ v.width ≤ 8192 ∧ 1 ≤ v.height ∧ v.height ≤ 8192 ∧ v.lead ≤ 20000

/-- The values an item holds and the values it waits for satisfy `ok`. -/
def ItemOk {α : Type} (ok : α → Prop) (applied : α) (w : Option (Change α)) : Prop :=
  ok applied ∧ ∀ ch, w = some ch → ok ch.value

/-- The Settings Store, the plans and the views. -/
structure StoreOk (s : State) : Prop where
  grid : GridOk s.settings
  timing : ItemOk TimingOk s.settings.timing s.waiting.timing
  profiles : ∀ i : Fin 4, ItemOk ProfileOk s.settings.profiles[i] s.waiting.profiles[i]
  pressure : ItemOk (pressureValid · = true) s.settings.pressure s.waiting.pressure
  tracking : ItemOk TrackingOk s.settings.tracking s.waiting.tracking
  map : ∀ j : Fin 7, ItemOk RowOk s.settings.map[j] s.waiting.map[j]
  tips : TipsDiffer (s.settings.profiles[·])
  nextTips : TipsDiffer s.nextProfile
  activePlan : planValid s.settings.timing.framePeriod s.frame.activePlan = true
  activePlanNext : planValid s.nextFramePeriod s.frame.activePlan = true
  pendingPlan : ∀ q, s.frame.pendingPlan = some q → planValid s.nextFramePeriod q.plan = true
  views : ∀ p, ViewOk s.settings (s.port p).view

/-! ## Mode Control, tasks and the frame timer (R17, R126, R127, R140, R148, R151, R154, R158) -/

/-- The modes that a port owns (R148). -/
def Mode.owned : Mode → Bool
  | .holding | .held | .survey => true
  | .starting | .scanning => false

/-- The modes in which no frame runs (chapter 1.3). -/
def Mode.still : Mode → Bool
  | .starting | .held => true
  | .scanning | .holding | .survey => false

/-- The mode agrees with its owner, the survey, the frame timer, the start-up and auto-resume timers, the pending settings
and the Capture Buffer's lock. -/
structure ModeOk (s : State) : Prop where
  owner : s.control.owner.isSome = s.control.mode.owned
  survey : s.control.survey.isSome = decide (s.control.mode = .survey)
  reservation : s.control.reservation.isSome = true → s.control.mode = .scanning
  stopped : decide (s.frame.phase = .stopped) = s.control.mode.still
  run : s.frame.run ≠ .none → s.frame.phase = .running
  startup : s.pins.startup.isSome = true → s.control.mode = .starting
  autoResume : s.control.autoResume.isSome = true → s.control.mode = .held
  held : s.control.mode = .held → s.waiting = noWaiting
  unlocked : (s.control.reservation.isSome || s.control.survey.isSome) = true → s.control.capture = none

/-- A port's task slot holds a running task exactly while what that task began stands: its plan pending, its hold not yet
reached, its survey waiting or active. -/
structure TasksOk (s : State) : Prop where
  setPlan : ∀ p, (s.port p).slot = .running .setPlan ↔ s.frame.pendingPlan.map (·.issuer) = some p
  holdScan : ∀ p, (s.port p).slot = .running .holdScan ↔ s.control.mode = .holding ∧ s.control.owner = some p
  coilSurvey : ∀ p, (s.port p).slot = .running .coilSurvey
    ↔ s.control.reservation.map (·.port) = some p ∨ (s.control.mode = .survey ∧ s.control.owner = some p)

/-- Throughout STARTING both ports hold no event, no code change, no task, no answer and no tick (R123, R130, R170, R171). -/
def QuietOk (s : State) : Prop :=
  s.control.mode = .starting → ∀ p, (s.port p).events = 0 ∧ (s.port p).list0 = [] ∧ (s.port p).list1 = []
    ∧ (s.port p).slot = .empty ∧ (s.port p).store = .none ∧ (s.port p).tickPoint = .off

/-! ## Synchronisation (R13, R16) -/

/-- The sync state agrees with SyncMode, and the sync timer runs exactly in LOCKED while frames run. -/
structure SyncOk (s : State) : Prop where
  mode : s.frame.sync = .free ↔ s.settings.timing.syncMode = .free
  timer : s.frame.syncTimer.isSome = true ↔ s.frame.sync = .locked ∧ s.frame.phase ≠ .stopped
  starting : s.control.mode = .starting → s.frame.sync ≠ .locked

/-! ## Tool records (R45, R46, R50, R53, R69, R82, R92, R97, R98) -/

/-- The fields of a tool record agree with its State. -/
structure ToolOk (t : Tool) : Prop where
  vacant : t.state = .vacant → t = vacantTool
  acquire : t.state = .acquire → t.rep = none ∧ t.rawV = ⟨0, 0⟩ ∧ t.vel = ⟨0, 0⟩ ∧ t.n = 0 ∧ t.phaseZero = 0 ∧ t.ring = none
    ∧ t.tilt = ⟨0, 0⟩ ∧ t.tiltStale = false ∧ t.tiltClamped = false ∧ t.acceptedCode = none ∧ t.codeCandidate = none
    ∧ t.assembly = none ∧ t.identityStatus = .unknown ∧ t.stroke = 0 ∧ t.confirmCount < Config.confirmFrames
  entered : t.state = .hover ∨ t.state = .contact ∨ t.state = .fade →
    t.rep.isSome = true ∧ t.pos.isSome = true ∧ t.confirmCount = Config.confirmFrames
  fade : t.fadeCount = 0 ↔ t.state ≠ .fade
  strokeOpen : t.strokeOpen = true → t.state = .contact ∨ t.state = .fade
  contact : t.state = .contact → t.strokeOpen = true
  pressure : t.pressure ≠ 0 → t.state = .contact
  identity : t.identity.isSome = true ↔ t.identityStatus = .known
  candidate : t.identityCandidate.isSome = true ↔ t.identityStatus ≠ .unknown
  assembly : ∀ bits, t.assembly = some bits → 1 ≤ bits.length ∧ bits.length ≤ 32

/-- Both tool records. -/
def ToolsOk (s : State) : Prop := ∀ i, ToolOk (s.tool i)

/-! ## Bezel keys (R173) -/

/-- The hold timer runs only while every key of a combination is PRESSED, and stands STOPPED with none. -/
structure KeysOk (s : State) : Prop where
  none : s.settings.combo = .none → s.keys.hold = .stopped
  running : ∀ d, s.keys.hold = .running d → s.keys.allPressed s.settings.combo = true

/-- A safe run: every state of it is safe in every block. -/
structure Safe (s : State) : Prop where
  ring : RingOk s
  ports : PortsOk s
  store : StoreOk s
  mode : ModeOk s
  tasks : TasksOk s
  quiet : QuietOk s
  sync : SyncOk s
  tools : ToolsOk s
  keys : KeysOk s

end Sys2Proof.Machine
end

