-- ==== Sys2Proof/Certificates/Slice0/Obligations.lean ====
section
/-! DEFINITION. What is to be proved of the part: one proposition per obligation, in the order of OBLIGATIONS.json. -/

open Sys2Proof Sys2Proof.Machine

/-! ## The machine -/

/-- A step takes the command at the front of the queue and answers what that command does with the queue's rest; on an
empty queue 1 µs passes: every timer that runs moves on by one and nothing else changes. Where a timed event lets time pass
first, every timer that runs moves on the same way. The tick of 1 µs and that time are the model's choice, log entry 2. -/
def Obligations.StepRunsFrontCommand : Prop :=
  (∀ (c : Instr) (s : State), step { s with pending := c :: s.pending } = exec c s)
  ∧ (∀ (s : State) (d : Nat), s.elapse d =
      { s with
        frame := { s.frame with
          timer := if s.frame.phase = .stopped then s.frame.timer else s.frame.timer + d
          syncTimer := s.frame.syncTimer.map (· + d) }
        control := { s.control with autoResume := s.control.autoResume.map (· + d) }
        pins := { s.pins with startup := s.pins.startup.map (· + d) }
        keys :=
          if s.pins.power = true ∧ s.pins.resetN = true then
            { s.keys with
              pace := s.keys.pace + d
              hold := match s.keys.hold with
                | .running h => .running (h + d)
                | .spent => .spent
                | .stopped => .stopped }
          else s.keys })
  ∧ ∀ s : State, s.pending = [] → s.pins.power = true → s.pins.resetN = true →
    step s = .next
      { s with
        frame := { s.frame with
          timer := if s.frame.phase = .stopped then s.frame.timer else s.frame.timer + 1
          syncTimer := s.frame.syncTimer.map (· + 1) }
        control := { s.control with autoResume := s.control.autoResume.map (· + 1) }
        pins := { s.pins with startup := s.pins.startup.map (· + 1) }
        keys := { s.keys with
          pace := s.keys.pace + 1
          hold := match s.keys.hold with
            | .running d => .running (d + 1)
            | .spent => .spent
            | .stopped => .stopped } }

/-- Every command answers a next state, in every state, and none reaches the queue. That a restart too leaves the queue is
the model's choice, log entry 24; that a timed event out of place and a command that is not well formed answer too is its
choice, log entries 3, 23 and 26. -/
def Obligations.EveryCommandAnswersNextAndKeepsQueue : Prop :=
  ∀ (c : Instr) (s : State), ∃ t, exec c s = .next t ∧ t.pending = s.pending

/-- In STARTING a port ignores every transaction but Fetch Response: no answer, no effect, no change to the store (R123);
the part drives 0 in every byte of it (R121). That driven zeros are an empty `sent` is the model's own form, log entry 6. -/
def Obligations.StartingIgnoresTransactions : Prop :=
  ∀ (c : Instr) (s : State) (p : Port) (code : Byte), c.wf = true → transactionCode c = some (p, code) → code ≠ 0 →
    s.control.mode = .starting → exec c s = .next (s.setPort p { s.port p with sent := [] })

/-- A request answered with anything but OK and TAKEN has changed no state but the store that holds its answer (R125). The
zeros driven (R121) are an empty `sent`, the model's own form, log entry 6. -/
def Obligations.RefusedRequestChangesNothing : Prop :=
  ∀ (c : Instr) (s t : State) (p : Port) (code : Byte) (a : Answer), c.wf = true → transactionCode c = some (p, code) →
    code ≠ 0 → s.control.mode ≠ .starting → exec c s = .next t → (t.port p).store = .notReady a → a.result ≠ .ok →
    a.result ≠ .taken → t = s.setPort p { s.port p with sent := [], store := .notReady a }

/-! ## Bytes of a transaction -/

/-- Every well-formed transaction is read back from its bytes, every operand at every value. Where BAD_LENGTH is
concerned the bytes are the code byte alone, one of the byte strings that R122 answers so. -/
def Obligations.DecodeOfEncode : Prop :=
  ∀ (c : Instr) (p : Port) (code : Byte), c.wf = true → transactionCode c = some (p, code) →
    decodeTransaction p (encodeTransaction c) = some c

/-- The checks of R122 in their order; bytes past the stated arguments are discarded (R121). -/
def Obligations.TransactionChecks : Prop :=
  ∀ (p : Port) (code : Byte), code ≠ 0 →
    decodeTransaction p [] = none
    ∧ (requestLength code = none → ∀ rest, decodeTransaction p (code :: rest) = some (.unknownCode p code))
    ∧ ∀ n, requestLength code = some n →
        decodeTransaction p [code] = some (.badLength p code)
        ∧ (∀ (len : Byte) (args : List Byte), len.toNat ≠ n →
            decodeTransaction p (code :: len :: args) = some (.badLength p code))
        ∧ (∀ (len : Byte) (args : List Byte), len.toNat = n → args.length < n →
            decodeTransaction p (code :: len :: args) = some (.badLength p code))
        ∧ ∀ (len : Byte) (args extra : List Byte), len.toNat = n → args.length = n →
            decodeTransaction p (code :: len :: (args ++ extra)) = some (decodeRequest p code args)

/-! ## Reset and the invariants of every step -/

/-- The values the spec gives the part at the start of a power-on restart: the default plan of R20, the shared settings of
R138, VACANT tool records (R46) and snapshots (R111), the Search Cursor after a reset (R38), the default views (R114). -/
def Obligations.ResetLeaves : Prop :=
  let s := State.reset
  s.control.mode = .starting ∧ s.control.owner = none ∧ s.control.reservation = none ∧ s.control.survey = none
    ∧ s.control.autoResume = none ∧ s.control.capture = none ∧ s.pins.startup = some 0
    ∧ s.frame.phase = .stopped ∧ s.frame.count = 0 ∧ s.frame.activePlan.toList
        = [⟨1, 0, 100, 150, 150, 30, 1⟩, ⟨2, 0, 450, 120, 120, 30, 1⟩, ⟨3, 0, 740, 120, 120, 30, 1⟩,
           ⟨4, 0, 1030, 120, 120, 30, 1⟩, ⟨2, 1, 1320, 120, 120, 30, 1⟩, ⟨3, 1, 1610, 120, 120, 30, 1⟩,
           ⟨4, 1, 1900, 120, 120, 30, 1⟩, ⟨5, 0, 2190, 0, 150, 30, 1⟩]
    ∧ s.frame.pendingPlan = none
    ∧ s.frame.lastOutcomes = Vector.replicate 8 .idle ∧ s.frame.lastFrame = none ∧ s.frame.sync = .free
    ∧ s.frame.noiseAxis = .x ∧ s.frame.noiseBand = 0 ∧ s.frame.noiseFloor = 0
    ∧ s.settings.xCount = 96 ∧ s.settings.yCount = 60
    ∧ s.settings.timing = { framePeriod := 2500, syncMode := .free, syncRatio := 1 }
    ∧ s.settings.profiles.toList
        = [⟨true, 560, 640, 100, 400, 1280⟩, ⟨true, 500, 700, 120, 360, 1536⟩, ⟨false, 600, 680, 100, 400, 1280⟩,
           ⟨false, 600, 680, 100, 400, 1280⟩]
    ∧ s.settings.pressure = { down := 164, up := 82, x1 := 2048, y1 := 2048, x2 := 4096, y2 := 4096, x3 := 6144, y3 := 6144 }
    ∧ s.settings.tracking = { acquire := 400, hold := 200, fadeFrames := 4, missLimit := 8, deadband := 8, tiltLimit := 600 }
    ∧ (∀ (j : Fin 7) (i : Fin 9), s.settings.map[j][i] = ⟨0, 0⟩) ∧ s.settings.combo = .none
    ∧ s.waiting = { timing := none, profiles := Vector.replicate 4 none, pressure := none, tracking := none,
                    map := Vector.replicate 7 none, combo := none }
    ∧ s.epoch = 0
    ∧ s.search = { phase := .sweep, profile := 0, band := 0, hitX := none, bestAmp := none, bestY := none }
    ∧ (∀ i, s.tool i =
        { state := .vacant, profile := 0, raw := ⟨0, 0⟩, rawV := ⟨0, 0⟩, pos := none, vel := ⟨0, 0⟩, rep := none, n := 0,
          pressure := 0, phaseZero := 0, ring := none, tilt := ⟨0, 0⟩, tiltStale := false, tiltClamped := false,
          acceptedCode := none, codeCandidate := none, identity := none, identityStatus := .unknown,
          identityCandidate := none, assembly := none, stroke := 0, strokeOpen := false, confirmCount := 0,
          fadeCount := 0, missCount := 0, lastObs := 0, releaseMark := false })
    ∧ s.ring = [] ∧ s.nextSeq = 0
    ∧ (∀ n, n = s.snap0 ∨ n = s.snap1 → n =
        { state := .vacant, profile := 0, rep := none, pressure := 0, tilt := ⟨0, 0⟩, tiltStale := false,
          tiltClamped := false, code := none, stroke := 0, strokeOpen := false, identityStatus := .unknown,
          identity := none, lastSeq := none, stamp := 0 })
    ∧ (∀ p, (s.port p).cursor = 0 ∧ (s.port p).watermark = 8 ∧ (s.port p).view =
          { kind := .grid, x0 := 0, x1 := 24320, y0 := 0, y1 := 15104, width := 3840, height := 2160, orientation := .deg0,
            lead := 0 }
        ∧ (s.port p).events = 0 ∧ (s.port p).mask = 0x2807 ∧ (s.port p).tickPoint = .off
        ∧ (s.port p).tickPending = false ∧ (s.port p).list0 = [] ∧ (s.port p).list1 = [] ∧ (s.port p).slot = .empty
        ∧ (s.port p).store = .none ∧ s.attention p = false)
    ∧ s.keys.levels = [false, false, false, false] ∧ s.keys.hold = .stopped

/-- The state right after reset is safe in every block. -/
def Obligations.ResetIsSafe : Prop := Safe State.reset

/-- Every step keeps the Sample Ring in Seq order, at most 512 records, both cursors within it (R103 to R106). -/
def Obligations.StepKeepsRing : Prop := ∀ s t : State, RingOk s → step s = .next t → RingOk t

/-- Every step keeps each port's own items in their ranges (R94, R95, R107, R131, R133). -/
def Obligations.StepKeepsPorts : Prop := ∀ s t : State, PortsOk s → step s = .next t → PortsOk t

/-- Every step keeps the settings, the pending changes, the plans and the views valid. -/
def Obligations.StepKeepsStore : Prop := ∀ s t : State, StoreOk s → step s = .next t → StoreOk t

/-- Every step keeps the mode in agreement with its owner, the survey, the frame timer and the other timers. -/
def Obligations.StepKeepsMode : Prop := ∀ s t : State, ModeOk s → step s = .next t → ModeOk t

/-- Every step keeps each task slot RUNNING exactly while what its task began stands. -/
def Obligations.StepKeepsTasks : Prop := ∀ s t : State, ModeOk s → TasksOk s → step s = .next t → TasksOk t

/-- Throughout STARTING both ports stay quiet. -/
def Obligations.StepKeepsStartingQuiet : Prop := ∀ s t : State, ModeOk s → QuietOk s → step s = .next t → QuietOk t

/-- Every step keeps the sync state in agreement with SyncMode, and the sync timer running exactly in LOCKED. -/
def Obligations.StepKeepsSync : Prop := ∀ s t : State, ModeOk s → SyncOk s → step s = .next t → SyncOk t

/-- Every step keeps the fields of each tool record in agreement with its State. -/
def Obligations.StepKeepsTools : Prop := ∀ s t : State, ToolsOk s → step s = .next t → ToolsOk t

/-- Every step keeps the hold timer running only while the combination's keys are PRESSED. -/
def Obligations.StepKeepsKeys : Prop := ∀ s t : State, KeysOk s → step s = .next t → KeysOk t

/-! ## Ring reads -/

/-- READ_SAMPLES and SKIP_TO_NEWEST: the cursor moves on by the number of records returned, or to NextSeq; nothing else
but the answer changes (R108, R110). Numbers go most significant byte first, signed ones in two's complement, and a record
is nineteen bytes, its position and tilt seen through the port's view (R178, R179). The order of the two numbers in the answer of Skip To Newest is the model's choice,
log entry 9. The zeros driven (R121) are an empty `sent`, the model's own form, log entry 6. -/
def Obligations.RingReadsMoveOnlyTheirCursor : Prop :=
  (∀ n : Nat, u8 n = [BitVec.ofNat 8 n] ∧ u16 n = [BitVec.ofNat 8 (n / 256), BitVec.ofNat 8 n]
    ∧ u32 n = [BitVec.ofNat 8 (n / 16777216), BitVec.ofNat 8 (n / 65536), BitVec.ofNat 8 (n / 256), BitVec.ofNat 8 n])
  ∧ (∀ z : Int, i16 z = u16 (z % 65536).toNat)
  ∧ (∀ (c : Settings) (v : View) (r : Sample),
    let at_ := v.mapPos c r.pos
    let tilt := v.mapTilt r.tilt
    let kind : Nat := match r.kind with
      | .motion => 0
      | .enter => 1
      | .strokeBegin => 2
      | .strokeEnd => 3
      | .leave => 4
      | .code => 5
    let tool : Nat := match r.tool with
      | .t0 => 0
      | .t1 => 1
    let bit (b : Bool) (i : Nat) : Nat := if b then 2 ^ i else 0
    (sampleBytes c v r).length = 19
    ∧ sampleBytes c v r = u16 r.seq.toNat ++ u16 r.stamp.toNat ++ u8 kind ++ u8 tool ++ u8 r.code.toNat ++ i16 at_.x ++ i16 at_.y
        ++ u16 r.pressure ++ i16 tilt.x ++ i16 tilt.y ++ u8 r.stroke.toNat
        ++ u8 (bit r.tiltStale 0 + bit r.tiltClamped 1 + bit r.edgeX 2 + bit r.edgeY 3 + bit r.held 4 + bit r.codeChanged 5
            + bit at_.out 6))
  ∧ ∀ (p : Port) (s : State), s.control.mode ≠ .starting →
    exec (.readSamples p 0) s = .next (s.setPort p { s.port p with sent := [], store := forming 0x10 .badValue [] })
    ∧ (∀ (count : Byte) (r : Nat), count ≠ 0 → r = min (min count.toNat 16) (s.backlog p) →
        exec (.readSamples p count) s = .next (s.setPort p { s.port p with
          cursor := (s.port p).cursor + BitVec.ofNat 16 r
          sent := []
          store := forming 0x10 .ok (u8 r ++ u16 (s.backlog p - r)
            ++ ((s.ring.drop (s.ring.length - s.backlog p)).take r).flatMap (sampleBytes s.settings (s.port p).view)) }))
    ∧ exec (.skipToNewest p) s = .next (s.setPort p { s.port p with
        cursor := s.nextSeq
        sent := []
        store := forming 0x11 .ok (u16 (s.backlog p) ++ u16 s.nextSeq.toNat) })

/-- The records a Read Samples returns are the oldest the port has not passed, in Seq order from its cursor on, and as
many as it says; the backlog after it is what the answer reports (R105, R108). -/
def Obligations.ReadSamplesReturnsOldestUnread : Prop :=
  ∀ (p : Port) (s : State) (count : Byte), RingOk s → s.control.mode ≠ .starting → count ≠ 0 →
    ∃ (rs : List Sample) (t : State), exec (.readSamples p count) s = .next t
      ∧ rs.length = min (min count.toNat 16) (s.backlog p)
      ∧ (∀ k r, rs[k]? = some r → r ∈ s.ring ∧ r.seq = (s.port p).cursor + BitVec.ofNat 16 k)
      ∧ t.backlog p = s.backlog p - rs.length
      ∧ (t.port p).store = forming 0x10 .ok
          (u8 rs.length ++ u16 (t.backlog p) ++ rs.flatMap (sampleBytes s.settings (s.port p).view))

/-- READ_LATEST, READ_STATUS, READ_SETTINGS, READ_MAP_ROW and READ_PLAN: the answer and nothing else (R113, R147, R163,
R165). A snapshot is twenty-nine bytes, seen through the port's view (R180), a slot record eleven (R176); named values have
the bytes of R125, R177 to R181 and else count from 0 in their rule's order (R178). The layouts of the payloads of READ_STATUS, READ_SETTINGS, READ_MAP_ROW and READ_PLAN, field by field, are the
model's choice, log entry 9. The zeros driven (R121) are an empty `sent`, the model's own form, log entry 6. -/
def Obligations.ReadsChangeOnlyTheAnswer : Prop :=
  (∀ (c : Settings) (v : View) (n : Snapshot) (pred : Option Pt),
    let bit (b : Bool) (i : Nat) : Nat := if b then 2 ^ i else 0
    let place (q : Option Pt) : List Byte := match q with
      | some q => i16 (v.mapPos c q).x ++ i16 (v.mapPos c q).y
      | none => [0, 0, 0, 0]
    let out (q : Option Pt) : Bool := match q with
      | some q => (v.mapPos c q).out
      | none => false
    (snapshotBytes c v n pred).length = 29
    ∧ snapshotBytes c v n pred = u8 n.state.num ++ u8 n.profile.val
        ++ u8 (bit n.rep.isSome 0 + bit pred.isSome 1 + bit n.code.isSome 2 + bit n.identity.isSome 3 + bit n.lastSeq.isSome 4
            + bit n.strokeOpen 5 + bit n.tiltStale 6 + bit n.tiltClamped 7)
        ++ place n.rep ++ place pred ++ u16 n.pressure ++ i16 (v.mapTilt n.tilt).x ++ i16 (v.mapTilt n.tilt).y
        ++ u8 (n.code.getD 0).toNat ++ u8 n.stroke.toNat ++ u8 n.identityStatus.num ++ u32 (n.identity.getD 0).toNat
        ++ u16 (n.lastSeq.getD 0).toNat ++ u16 n.stamp.toNat ++ u8 (bit (out n.rep) 0 + bit (out pred) 1))
  ∧ ([.vacant, .acquire, .hover, .contact, .fade].map ToolState.num = [0, 1, 2, 3, 4]
    ∧ [.unknown, .partly, .known].map IdentityStatus.num = [0, 1, 2]
    ∧ [.starting, .scanning, .holding, .held, .survey].map Mode.num = [0, 1, 2, 3, 4]
    ∧ [.free, .seeking, .locked].map SyncState.num = [0, 1, 2] ∧ [.free, .locked].map SyncMode.num = [0, 1]
    ∧ [.off, .frameStart, .midFrame].map TickPoint.num = [0, 1, 2]
    ∧ [.none, .k01, .k012, .all].map KeyCombo.num = [0, 1, 2, 3] ∧ [.baseline, .response].map SurveyKind.num = [0, 1]
    ∧ [.done, .notNeeded, .skipped, .cut, .truncated, .idle].map SlotOutcome.num = [0, 1, 2, 3, 4, 5]
    ∧ [.setPlan, .holdScan, .coilSurvey].map TaskKind.num = [0, 1, 2] ∧ [.x, .y].map Axis.num = [0, 1]
    ∧ [.sweep, .locate].map SearchPhase.num = [0, 1]
    ∧ [.ok, .taken, .busy, .rejected, .locked, .badValue, .badLength, .unknown, .notOwner, .aborted, .timedOut, .superseded,
        .cancelled].map ResultCode.num = [0, 1, 2, 3, 4, 5, 6, 7, 8, 9, 10, 11, 12]
    ∧ portByte none = [0] ∧ portByte (some .s) = [1] ∧ portByte (some .d) = [2] ∧ flag false = [0] ∧ flag true = [1])
  ∧ (∀ plan : Plan, planBytes plan = plan.toList.flatMap fun r =>
      [r.function, r.tool] ++ u16 r.start.toNat ++ u16 r.excite.toNat ++ u16 r.listen.toNat ++ u16 r.slip.toNat ++ [r.guard])
  ∧ (∀ (t : Timing) (f : Profile) (k : Pressure) (g : Tracking) (row : MapRow),
    timingBytes t = u16 t.framePeriod ++ u8 t.syncMode.num ++ u8 t.syncRatio
    ∧ profileBytes f = flag f.enabled ++ u16 f.tipFreq ++ u16 f.ringFreq ++ u16 f.nominalZero ++ u16 f.phaseSpan
        ++ u16 f.ringHeight
    ∧ pressureBytes k = u16 k.down ++ u16 k.up ++ u16 k.x1 ++ u16 k.y1 ++ u16 k.x2 ++ u16 k.y2 ++ u16 k.x3 ++ u16 k.y3
    ∧ trackingBytes g = u16 g.acquire ++ u16 g.hold ++ u8 g.fadeFrames ++ u8 g.missLimit ++ u8 g.deadband ++ u16 g.tiltLimit
    ∧ rowBytes row = row.toList.flatMap fun d => i16 d.x ++ i16 d.y)
  ∧ ∀ (p : Port) (s : State), s.control.mode ≠ .starting →
    let answers (c : Instr) (code : Byte) (r : ResultCode) (payload : List Byte) : Prop :=
      exec c s = .next (s.setPort p { s.port p with sent := [], store := forming code r payload })
    answers (.readLatest p) 0x12 .ok
      (snapshotBytes s.settings (s.port p).view s.snap0 (predicted s.settings (s.port p).view.lead s.tool0)
        ++ snapshotBytes s.settings (s.port p).view s.snap1 (predicted s.settings (s.port p).view.lead s.tool1)
        ++ u16 s.nextSeq.toNat)
    ∧ answers (.readStatus p) 0x13 .ok
      (u8 s.control.mode.num ++ portByte s.control.owner ++ portByte (s.control.reservation.map (·.port))
        ++ (match s.control.survey with
            | some v => [1] ++ u8 v.frames ++ u8 v.bx ++ u8 v.byy ++ flag v.xDone ++ flag v.yDone
            | none => [0, 0, 0, 0, 0, 0])
        ++ flag s.control.autoResume.isSome ++ flag s.control.capture.isSome ++ portByte (s.control.capture.map (·.owner))
        ++ u32 s.frame.count.toNat ++ u16 s.settings.timing.framePeriod ++ u8 s.frame.sync.num
        ++ flag s.frame.lastFrame.isSome ++ u16 (s.frame.lastFrame.getD 0).toNat
        ++ s.frame.lastOutcomes.toList.flatMap (fun o => u8 o.num)
        ++ flag s.frame.pendingPlan.isSome ++ portByte (s.frame.pendingPlan.map (·.issuer))
        ++ u8 s.frame.noiseAxis.num ++ u8 s.frame.noiseBand ++ u16 s.frame.noiseFloor
        ++ u16 (max s.settings.tracking.acquire (2 * s.frame.noiseFloor))
        ++ u16 (max s.settings.tracking.hold s.frame.noiseFloor)
        ++ u8 s.search.phase.num ++ u8 s.search.profile.val ++ u8 s.search.band
        ++ (u8 s.tool0.state.num ++ u8 s.tool0.profile.val ++ flag s.tool0.releaseMark)
        ++ (u8 s.tool1.state.num ++ u8 s.tool1.profile.val ++ flag s.tool1.releaseMark)
        ++ u16 (s.port p).cursor.toNat ++ u16 s.nextSeq.toNat ++ u16 (s.backlog p))
    ∧ (let waits : Option Port → List Byte := fun q => flag q.isSome ++ portByte q
      answers (.readSettings p) 0x49 .ok
        (u8 s.settings.xCount ++ u8 s.settings.yCount ++ timingBytes s.settings.timing
          ++ s.settings.profiles.toList.flatMap profileBytes ++ pressureBytes s.settings.pressure
          ++ trackingBytes s.settings.tracking ++ u8 s.settings.combo.num
          ++ waits none ++ waits (s.waiting.timing.map (·.port))
          ++ s.waiting.profiles.toList.flatMap (fun c => waits (c.map (·.port)))
          ++ waits (s.waiting.pressure.map (·.port)) ++ waits (s.waiting.tracking.map (·.port))
          ++ s.waiting.map.toList.flatMap (fun c => waits (c.map (·.port))) ++ waits (s.waiting.combo.map (·.port))
          ++ u16 s.epoch.toNat))
    ∧ (∀ (row : Byte) (j : Fin 7), row.toNat = j.val →
        answers (.readMapRow p row) 0x48 .ok (rowBytes s.settings.map[j] ++ flag s.waiting.map[j].isSome))
    ∧ (∀ row : Byte, 7 ≤ row.toNat → answers (.readMapRow p row) 0x48 .badValue [])
    ∧ answers (.readPlan p 0) 0x39 .ok
        (u16 s.settings.timing.framePeriod ++ flag s.frame.pendingPlan.isSome ++ planBytes s.frame.activePlan)
    ∧ (∀ q, s.frame.pendingPlan = some q → answers (.readPlan p 1) 0x39 .ok (portByte (some q.issuer) ++ planBytes q.plan))
    ∧ (s.frame.pendingPlan = none → answers (.readPlan p 1) 0x39 .rejected [])
    ∧ ∀ which : Byte, 1 < which.toNat → answers (.readPlan p which) 0x39 .badValue []

/-! ## Attention, ticks, view -/

/-- READ_ATTENTION reports the record and clears it, takes one code from each change list, and leaves TickPending (R95,
R132, R181). The zeros driven (R121) are an empty `sent`, the model's own form, log entry 6. -/
def Obligations.ReadAttentionReportsAndClears : Prop :=
  ∀ (p : Port) (s : State), s.control.mode ≠ .starting →
    ∃ t, exec (.readAttention p) s = .next t ∧ OnlyPort p s t
      ∧ t.port p = { s.port p with
          events := 0
          list0 := (s.port p).list0.drop 1
          list1 := (s.port p).list1.drop 1
          sent := []
          store := forming 0x20 .ok
            (u16 (s.port p).pendingEvents.toNat ++ u16 (s.port p).mask.toNat
              ++ u8 ((s.port p).tickPoint.num + (if (s.port p).tickPending then 128 else 0))
              ++ headByte (s.port p).list0 ++ headByte (s.port p).list1 ++ keysByte s.keys ++ u8 s.control.mode.num
              ++ portByte s.control.owner ++ u8 s.frame.sync.num ++ u16 s.epoch.toNat) }
      ∧ ∀ e : Event, e.isIn (t.port p).pendingEvents = true ↔
          e = .codeChange ∧ (2 ≤ (s.port p).list0.length ∨ 2 ≤ (s.port p).list1.length)

/-- SET_ATTENTION_MASK, SET_TICK, ACK_TICK and SET_WATERMARK write their item of their own port and nothing else
(R107, R131, R133, R134). The zeros driven (R121) are an empty `sent`, the model's own form, log entry 6. -/
def Obligations.PortItemWrites : Prop :=
  ∀ (p : Port) (s : State), s.control.mode ≠ .starting →
    (∀ mask : Half, mask.toNat < 16384 →
        exec (.setAttentionMask p mask) s = .next (s.setPort p { s.port p with
          mask := mask ||| 0x2000, sent := [], store := forming 0x21 .ok (u16 (mask ||| 0x2000).toNat) }))
    ∧ (∀ mask : Half, 16384 ≤ mask.toNat →
        exec (.setAttentionMask p mask) s = .next (s.setPort p { s.port p with sent := [], store := forming 0x21 .badValue [] }))
    ∧ exec (.setTick p 0) s = .next (s.setPort p { s.port p with
        tickPoint := .off, tickPending := false, sent := [], store := forming 0x22 .ok [] })
    ∧ exec (.setTick p 1) s = .next (s.setPort p { s.port p with tickPoint := .frameStart, sent := [], store := forming 0x22 .ok [] })
    ∧ exec (.setTick p 2) s = .next (s.setPort p { s.port p with tickPoint := .midFrame, sent := [], store := forming 0x22 .ok [] })
    ∧ (∀ point : Byte, 2 < point.toNat →
        exec (.setTick p point) s = .next (s.setPort p { s.port p with sent := [], store := forming 0x22 .badValue [] }))
    ∧ exec (.ackTick p) s = .next (s.setPort p { s.port p with
        tickPending := false, sent := [], store := forming 0x23 .ok (flag (s.port p).tickPending) })
    ∧ ∀ value : Half, exec (.setWatermark p value) s = .next (s.setPort p { s.port p with
        watermark := max 1 (min value.toNat 512), sent := [], store := forming 0x29 .ok (u16 (max 1 (min value.toNat 512))) })

/-- SET_VIEW writes all fields of its port's view, clamped, or refuses with BAD_VALUE and writes none (R115). The zeros
driven (R121) are an empty `sent`, the model's own form, log entry 6. -/
def Obligations.SetViewWritesOrRefuses : Prop :=
  ∀ (p : Port) (a : ViewArgs) (s : State), s.control.mode ≠ .starting →
    let allowed : Prop := a.viewKind.toNat < 2 ∧ a.orientation.toNat < 4 ∧ 1 ≤ a.width.toNat ∧ a.width.toNat ≤ 8192
      ∧ 1 ≤ a.height.toNat ∧ a.height.toNat ≤ 8192
      ∧ min (a.x0.toNat : Int) s.settings.xSpan < min (a.x1.toNat : Int) s.settings.xSpan
      ∧ min (a.y0.toNat : Int) s.settings.ySpan < min (a.y1.toNat : Int) s.settings.ySpan
    (allowed → ∃ v : View, exec (.setView p a) s
          = .next (s.setPort p { s.port p with view := v, sent := [], store := forming 0x28 .ok (areaBytes v) })
        ∧ v.kind = (if a.viewKind = 0 then .grid else .display)
        ∧ v.x0 = min (a.x0.toNat : Int) s.settings.xSpan ∧ v.x1 = min (a.x1.toNat : Int) s.settings.xSpan
        ∧ v.y0 = min (a.y0.toNat : Int) s.settings.ySpan ∧ v.y1 = min (a.y1.toNat : Int) s.settings.ySpan
        ∧ v.width = a.width.toNat ∧ v.height = a.height.toNat ∧ v.lead = min a.lead.toNat 20000
        ∧ v.orientation = (if a.orientation = 0 then .deg0 else if a.orientation = 1 then .deg90
            else if a.orientation = 2 then .deg180 else .deg270))
    ∧ (¬ allowed → exec (.setView p a) s = .next (s.setPort p { s.port p with sent := [], store := forming 0x28 .badValue [] }))

/-- A port's attention line is asserted exactly when a pending event is enabled or a tick is pending, and released in
STARTING (R135). -/
def Obligations.AttentionLineFollowsItsPort : Prop :=
  ∀ (p : Port) (s : State), PortsOk s →
    (s.attention p = true ↔ s.control.mode ≠ .starting
      ∧ ((∃ e : Event, e.isIn (s.port p).pendingEvents = true ∧ e.isIn (s.port p).mask = true)
        ∨ (s.port p).tickPending = true))

/-! ## Tasks and plans -/

/-- READ_TASK_RESULT reports the slot and empties a completed one (R128). ABORT_TASK ends the port's running task with
ABORTED, undoes what that task began, and reaches nothing of the other port but ModeChanged; with no running task it
answers REJECTED (R25, R129, R153, R157). The bytes of the slot are the model's choice, log
entry 9. The zeros driven (R121) are an empty `sent`, the model's own form, log entry 6. -/
def Obligations.TaskResultAndAbort : Prop :=
  ∀ (p : Port) (s : State), ModeOk s → TasksOk s → s.control.mode ≠ .starting →
    ((s.port p).slot = .empty →
        exec (.readTaskResult p) s = .next (s.setPort p { s.port p with sent := [], store := forming 0x30 .ok [0, 0, 0, 0, 0] }))
    ∧ (∀ k, (s.port p).slot = .running k →
        exec (.readTaskResult p) s
          = .next (s.setPort p { s.port p with sent := [], store := forming 0x30 .ok ([1, 1] ++ u8 k.num ++ [0, 0]) }))
    ∧ (∀ k r, (s.port p).slot = .completed k r →
        exec (.readTaskResult p) s = .next (s.setPort p { s.port p with
          slot := .empty, sent := [], store := forming 0x30 .ok ([2, 1] ++ u8 k.num ++ [1] ++ u8 r.num) }))
    ∧ ((∀ k, (s.port p).slot ≠ .running k) →
        exec (.abortTask p) s = .next (s.setPort p { s.port p with sent := [], store := forming 0x31 .rejected [] }))
    ∧ ((s.port p).slot = .running .setPlan →
        exec (.abortTask p) s = .next ({ s with frame := { s.frame with pendingPlan := none } }.setPort p { s.port p with
          slot := .completed .setPlan .aborted
          events := Event.addTo .taskDone (s.port p).events
          sent := []
          store := forming 0x31 .ok [] }))
    ∧ (∀ k, k = .holdScan ∨ (k = .coilSurvey ∧ s.control.mode = .survey) → (s.port p).slot = .running k →
        exec (.abortTask p) s = .next (({ s with control := { s.control with
            mode := .scanning, owner := none, survey := none } }.setPort p.other { s.port p.other with
              events := Event.addTo .modeChanged (s.port p.other).events }).setPort p { s.port p with
                slot := .completed k .aborted
                events := Event.addTo .taskDone (Event.addTo .modeChanged (s.port p).events)
                sent := []
                store := forming 0x31 .ok [] }))
    ∧ ((s.port p).slot = .running .coilSurvey → s.control.mode ≠ .survey →
        exec (.abortTask p) s = .next ({ s with control := { s.control with reservation := none } }.setPort p { s.port p with
          slot := .completed .coilSurvey .aborted
          events := Event.addTo .taskDone (s.port p).events
          sent := []
          store := forming 0x31 .ok [] }))

/-- SET_PLAN: BUSY, BAD_VALUE, or TAKEN, with the other port's pending plan superseded (R22, R23, R126). The zeros driven
(R121) are an empty `sent`, the model's own form, log entry 6. -/
def Obligations.SetPlanTakenOrRefused : Prop :=
  ∀ (p : Port) (plan : Plan) (s : State), TasksOk s → s.control.mode ≠ .starting →
    ((∃ k, (s.port p).slot = .running k) →
        exec (.setPlan p plan) s = .next (s.setPort p { s.port p with sent := [], store := forming 0x38 .busy [] }))
    ∧ ((∀ k, (s.port p).slot ≠ .running k) → planValid s.nextFramePeriod plan = false →
        exec (.setPlan p plan) s = .next (s.setPort p { s.port p with sent := [], store := forming 0x38 .badValue [] }))
    ∧ ((∀ k, (s.port p).slot ≠ .running k) → planValid s.nextFramePeriod plan = true →
        let waits := { s with frame := { s.frame with pendingPlan := some { plan, issuer := p } } }
        let mine := { s.port p with slot := .running .setPlan, sent := [], store := forming 0x38 .taken [] }
        (s.frame.pendingPlan = none → exec (.setPlan p plan) s = .next (waits.setPort p mine))
        ∧ ∀ q, s.frame.pendingPlan = some q →
            exec (.setPlan p plan) s = .next ((waits.setPort p.other { s.port p.other with
              slot := .completed .setPlan .superseded
              events := Event.addTo .taskDone (s.port p.other).events }).setPort p mine))

/-- A plan is valid exactly when R18 and R19 say so: a non-IDLE slot exists, every field of every non-IDLE slot is in its
range, Starts strictly increase, no reserved end passes the next Start, and the last leaves 100 µs of the frame. -/
def Obligations.PlanValidity : Prop :=
  ∀ (framePeriod : Nat) (plan : Plan), planValid framePeriod plan = true ↔
    let used (k : Fin 8) : Prop := plan[k].function ≠ 0
    let done (k : Fin 8) : Nat := plan[k].start.toNat + plan[k].slip.toNat + plan[k].excite.toNat + plan[k].listen.toNat
    (∃ k, used k)
    ∧ (∀ k, used k → plan[k].function.toNat ≤ 5 ∧ plan[k].start.toNat ≤ 10000
        ∧ 10 ≤ plan[k].listen.toNat ∧ plan[k].listen.toNat ≤ 400 ∧ plan[k].slip.toNat ≤ 500 ∧ plan[k].guard.toNat ≤ 1
        ∧ (plan[k].function = 5 → plan[k].excite = 0)
        ∧ (plan[k].function ≠ 5 → 10 ≤ plan[k].excite.toNat ∧ plan[k].excite.toNat ≤ 400)
        ∧ (2 ≤ plan[k].function.toNat → plan[k].function.toNat ≤ 4 → plan[k].tool.toNat ≤ 1)
        ∧ done k + 100 ≤ framePeriod)
    ∧ ∀ j k, used j → used k → j < k → plan[j].start.toNat < plan[k].start.toNat ∧ done j ≤ plan[k].start.toNat

/-! ## Shared settings -/

/-- What each settings request's arguments must be, and the values it brings: ranges, consistency and clamps (R36, R78,
R80, R139, R144, R145, R146, R177). -/
def Obligations.SettingsArguments : Prop :=
  (∀ (x y : Byte) (g : Nat × Nat), gridOf x y = some g ↔
      16 ≤ x.toNat ∧ x.toNat ≤ 96 ∧ 16 ≤ y.toNat ∧ y.toNat ≤ 60 ∧ g = (x.toNat, y.toNat))
  ∧ (∀ (fp : Half) (mode ratio : Byte) (t : Timing), timingOf fp mode ratio = some t ↔
      1500 ≤ fp.toNat ∧ fp.toNat ≤ 10000 ∧ mode.toNat ≤ 1 ∧ 1 ≤ ratio.toNat ∧ ratio.toNat ≤ 4
      ∧ t = { framePeriod := fp.toNat, syncMode := if mode = 0 then .free else .locked, syncRatio := ratio.toNat })
  ∧ (∀ (a : ProfileArgs) (f : Profile), profileOf a = some f ↔
      a.enabled.toNat ≤ 1 ∧ 300 ≤ a.tipFreq.toNat ∧ a.tipFreq.toNat ≤ 900 ∧ 300 ≤ a.ringFreq.toNat
      ∧ a.ringFreq.toNat ≤ 900 ∧ a.ringFreq ≠ a.tipFreq ∧ a.nominalZero.toNat ≤ 1023 ∧ 64 ≤ a.phaseSpan.toNat
      ∧ a.phaseSpan.toNat ≤ 1023 ∧ 256 ≤ a.ringHeight.toNat ∧ a.ringHeight.toNat ≤ 4096
      ∧ f = { enabled := a.enabled == 1, tipFreq := a.tipFreq.toNat, ringFreq := a.ringFreq.toNat,
              nominalZero := a.nominalZero.toNat, phaseSpan := a.phaseSpan.toNat, ringHeight := a.ringHeight.toNat })
  ∧ (∀ (a : PressureArgs) (k : Pressure), pressureOf a = some k ↔
      a.up.toNat < a.down.toNat ∧ a.down.toNat ≤ 8191 ∧ 0 < a.x1.toNat ∧ a.x1.toNat < a.x2.toNat
      ∧ a.x2.toNat < a.x3.toNat ∧ a.x3.toNat < 8191 ∧ a.y1.toNat ≤ a.y2.toNat ∧ a.y2.toNat ≤ a.y3.toNat
      ∧ a.y3.toNat ≤ 8191
      ∧ k = { down := a.down.toNat, up := a.up.toNat, x1 := a.x1.toNat, y1 := a.y1.toNat, x2 := a.x2.toNat,
              y2 := a.y2.toNat, x3 := a.x3.toNat, y3 := a.y3.toNat })
  ∧ (∀ (a : TrackingArgs) (k : Tracking), trackingOf a = some k ↔
      min a.hold.toNat 4095 ≤ min a.acquire.toNat 4095
      ∧ k = { acquire := min a.acquire.toNat 4095, hold := min a.hold.toNat 4095,
              fadeFrames := max 1 (min a.fadeFrames.toNat 16), missLimit := max 2 (min a.missLimit.toNat 32),
              deadband := min a.deadband.toNat 64, tiltLimit := min a.tiltLimit.toNat 900 })
  ∧ (∀ (v : Vector NodeArgs 9) (i : Fin 9),
      (mapRowOf v)[i] = { x := max (-512) (min v[i].dx.toInt 511), y := max (-512) (min v[i].dy.toInt 511) })
  ∧ ∀ (b : Byte) (k : KeyCombo), keyComboOf b = some k ↔ b.toNat = k.num

/-- A settings request that is refused changes nothing but its port's store: BAD_VALUE for its arguments, then REJECTED
for a period that does not fit, for a TipFreq already used, for a Set Grid outside HELD (R36, R139, R144, R145). The
zeros driven (R121) are an empty `sent`, the model's own form, log entry 6. -/
def Obligations.SettingsRefused : Prop :=
  ∀ (p : Port) (s : State), s.control.mode ≠ .starting →
    let refused (c : Instr) (code : Byte) (r : ResultCode) : Prop :=
      exec c s = .next (s.setPort p { s.port p with sent := [], store := forming code r [] })
    (∀ x y, gridOf x y = none → refused (.setGrid p x y) 0x40 .badValue)
    ∧ (∀ x y g, gridOf x y = some g → s.control.mode ≠ .held → refused (.setGrid p x y) 0x40 .rejected)
    ∧ (∀ fp m r, timingOf fp m r = none → refused (.setTiming p fp m r) 0x41 .badValue)
    ∧ (∀ fp m r t, timingOf fp m r = some t →
        (planFits t.framePeriod s.frame.activePlan = false
          ∨ ∃ q, s.frame.pendingPlan = some q ∧ planFits t.framePeriod q.plan = false) →
        refused (.setTiming p fp m r) 0x41 .rejected)
    ∧ (∀ i a, 4 ≤ i.toNat ∨ profileOf a = none → refused (.setProfile p i a) 0x42 .badValue)
    ∧ (∀ (i : Byte) (a : ProfileArgs) (f : Profile) (j : Fin 4), i.toNat < 4 → profileOf a = some f → j.val ≠ i.toNat →
        f.enabled = true → (s.nextProfile j).enabled = true → (s.nextProfile j).tipFreq = f.tipFreq →
        refused (.setProfile p i a) 0x42 .rejected)
    ∧ (∀ a, pressureOf a = none → refused (.setPressure p a) 0x43 .badValue)
    ∧ (∀ a, trackingOf a = none → refused (.setTracking p a) 0x44 .badValue)
    ∧ (∀ row v, 7 ≤ row.toNat → refused (.setMapRow p row v) 0x45 .badValue)
    ∧ ∀ combo, 4 ≤ combo.toNat → refused (.setKeyCombo p combo) 0x46 .badValue

/-- While frames run, a taken settings request becomes the pending change of its item, with its port, and applies nothing;
the answer says so (R139, R140). The byte that says so and the layout of the answer's fields are the model's choice, log
entries 10 and 9. The zeros driven (R121) are an empty `sent`, the model's own form, log entry 6. -/
def Obligations.SettingsWaitWhileScanning : Prop :=
  ∀ (p : Port) (s : State), s.control.mode ≠ .starting → s.control.mode ≠ .held →
    let waits (c : Instr) (code : Byte) (w : Waiting) (fields : List Byte) : Prop :=
      exec c s = .next ({ s with waiting := w }.setPort p { s.port p with
        sent := []
        store := forming code .ok (fields ++ [1] ++ u16 s.epoch.toNat) })
    (∀ fp m r t, timingOf fp m r = some t → planFits t.framePeriod s.frame.activePlan = true →
        (∀ q, s.frame.pendingPlan = some q → planFits t.framePeriod q.plan = true) →
        waits (.setTiming p fp m r) 0x41 { s.waiting with timing := some { value := t, port := p } } (timingBytes t))
    ∧ (∀ (i : Byte) (k : Fin 4) (a : ProfileArgs) (f : Profile), i.toNat = k.val → profileOf a = some f →
        (∀ j, j ≠ k → f.enabled = true → (s.nextProfile j).enabled = true → (s.nextProfile j).tipFreq ≠ f.tipFreq) →
        waits (.setProfile p i a) 0x42
          { s.waiting with profiles := s.waiting.profiles.set k (some { value := f, port := p }) } (profileBytes f))
    ∧ (∀ a k, pressureOf a = some k →
        waits (.setPressure p a) 0x43 { s.waiting with pressure := some { value := k, port := p } } (pressureBytes k))
    ∧ (∀ a k, trackingOf a = some k →
        waits (.setTracking p a) 0x44 { s.waiting with tracking := some { value := k, port := p } } (trackingBytes k))
    ∧ (∀ (row : Byte) (j : Fin 7) v, row.toNat = j.val →
        waits (.setMapRow p row v) 0x45
          { s.waiting with map := s.waiting.map.set j (some { value := mapRowOf v, port := p }) } (rowBytes (mapRowOf v)))
    ∧ ∀ combo k, keyComboOf combo = some k →
        waits (.setKeyCombo p combo) 0x46 { s.waiting with combo := some { value := k, port := p } } (u8 k.num)

/-- In HELD a taken settings request is applied at once, one application instance: the item's new value, SettingsEpoch
one up, SettingsChanged at the other port, nothing pending (R142, R143), and a tool whose profile changed marked for
release (R37). The byte 0 in the answer and its layout are the model's choice, log entries 10 and 9. The zeros driven
(R121) are an empty `sent`, the model's own form, log entry 6. -/
def Obligations.SettingsApplyAtOnceInHeld : Prop :=
  ∀ (p : Port) (s : State), s.control.mode = .held → s.waiting = noWaiting →
    let told (t : State) : State := t.setPort p.other { s.port p.other with
      events := Event.addTo .settingsChanged (s.port p.other).events }
    let applies (c : Instr) (code : Byte) (new : State) (fields : List Byte) : Prop :=
      exec c s = .next ((told { new with epoch := s.epoch + 1 }).setPort p { s.port p with
        sent := []
        store := forming code .ok (fields ++ [0] ++ u16 (s.epoch + 1).toNat) })
    (∀ a k, pressureOf a = some k →
        applies (.setPressure p a) 0x43 { s with settings := { s.settings with pressure := k } } (pressureBytes k))
    ∧ (∀ a k, trackingOf a = some k →
        applies (.setTracking p a) 0x44 { s with settings := { s.settings with tracking := k } } (trackingBytes k))
    ∧ (∀ (row : Byte) (j : Fin 7) v, row.toNat = j.val →
        applies (.setMapRow p row v) 0x45
          { s with settings := { s.settings with map := s.settings.map.set j (mapRowOf v) } } (rowBytes (mapRowOf v)))
    ∧ (∀ fp m r t, timingOf fp m r = some t → planFits t.framePeriod s.frame.activePlan = true →
        (∀ q, s.frame.pendingPlan = some q → planFits t.framePeriod q.plan = true) →
        applies (.setTiming p fp m r) 0x41
          { s with
            settings := { s.settings with timing := t }
            frame :=
              if t.syncMode = s.settings.timing.syncMode then s.frame
              else { s.frame with sync := if t.syncMode = .locked then .seeking else .free, syncTimer := none } }
          (timingBytes t))
    ∧ (∀ (i : Byte) (k : Fin 4) (a : ProfileArgs) (f : Profile), i.toNat = k.val → profileOf a = some f →
        (∀ j, j ≠ k → f.enabled = true → (s.nextProfile j).enabled = true → (s.nextProfile j).tipFreq ≠ f.tipFreq) →
        let profiles := s.settings.profiles.set k f
        let marked (t : Tool) : Tool :=
          { t with releaseMark := t.releaseMark || (t.state != .vacant && profiles[t.profile] != s.settings.profiles[t.profile]) }
        applies (.setProfile p i a) 0x42
          { s with
            settings := { s.settings with profiles }
            tool0 := marked s.tool0
            tool1 := marked s.tool1
            search :=
              if s.search.profile = k ∧ f ≠ s.settings.profiles[k] then
                sweepFrom (if f.enabled then k else nextEnabled profiles k)
              else s.search }
          (profileBytes f))
    ∧ ∀ combo k, keyComboOf combo = some k →
        applies (.setKeyCombo p combo) 0x46
          { s with
            settings := { s.settings with combo := k }
            keys := { s.keys with
              hold :=
                if k = s.settings.combo then s.keys.hold
                else if k = .none then .stopped
                else if s.keys.hold = .spent then .spent
                else if s.keys.allPressed k then .running 0 else .stopped } }
          (u8 k.num)

/-- SET_GRID in HELD: the counts, both views brought within the new grid (R120), the Search Cursor reset to the lowest enabled
profile or P0 (R38), the noise cursor back at X band 0 when a count changed, SettingsEpoch one up, SettingsChanged at the
other port; nothing else (R145). The byte 0 in the answer and its layout are the model's choice, log entries 10 and 9. The
zeros driven (R121) are an empty `sent`, the model's own form, log entry 6. -/
def Obligations.SetGridInHeld : Prop :=
  ∀ (p : Port) (x y : Byte) (s : State), s.control.mode = .held → 16 ≤ x.toNat → x.toNat ≤ 96 → 16 ≤ y.toNat →
    y.toNat ≤ 60 →
    let c := { s.settings with xCount := x.toNat, yCount := y.toNat }
    let enabled (i : Fin 4) : Prop := s.settings.profiles[i].enabled = true
    let clamped (lo hi v : Int) : Int := if v < lo then lo else if hi < v then hi else v
    let brought (v : View) : View :=
      let x1 := clamped 0 (((x.toNat : Int) - 1) * 256) v.x1
      let y1 := clamped 0 (((y.toNat : Int) - 1) * 256) v.y1
      { v with x1, x0 := clamped 0 (x1 - 1) v.x0, y1, y0 := clamped 0 (y1 - 1) v.y0 }
    ∃ lowest : Fin 4, lowest = lowestEnabled s.settings.profiles
    ∧ ((enabled lowest ∧ ∀ j, j < lowest → ¬ enabled j) ∨ (lowest = 0 ∧ ∀ j, ¬ enabled j))
    ∧ exec (.setGrid p x y) s = .next ((({ s with
        settings := c
        epoch := s.epoch + 1
        search := { phase := .sweep, profile := lowest, band := 0, hitX := none, bestAmp := none, bestY := none }
        frame := { s.frame with
          noiseAxis := if x.toNat = s.settings.xCount ∧ y.toNat = s.settings.yCount then s.frame.noiseAxis else .x
          noiseBand := if x.toNat = s.settings.xCount ∧ y.toNat = s.settings.yCount then s.frame.noiseBand else 0 } }.setPort
      p.other { s.port p.other with
        view := brought (s.port p.other).view
        events := Event.addTo .settingsChanged (s.port p.other).events }).setPort
      p { s.port p with
        view := brought (s.port p).view
        sent := []
        store := forming 0x40 .ok ([x, y] ++ [0] ++ u16 (s.epoch + 1).toNat) }))

/-! ## Modes -/

/-- HOLD_SCAN: BUSY, REJECTED, or TAKEN with the mode HOLDING and the other port's survey cancelled (R126, R149). The zeros
driven (R121) are an empty `sent`, the model's own form, log entry 6. -/
def Obligations.HoldScanByMode : Prop :=
  ∀ (p : Port) (delay : Byte) (s : State), ModeOk s → TasksOk s → s.control.mode ≠ .starting →
    let idle := ∀ k, (s.port p).slot ≠ .running k
    let held := { s with control := { s.control with
      mode := .holding, owner := some p, reservation := none, survey := none, resumeDelay := delay.toNat } }
    let mine := { s.port p with
      slot := .running .holdScan
      events := Event.addTo .modeChanged (s.port p).events
      sent := []
      store := forming 0x50 .taken [] }
    (¬ idle → exec (.holdScan p delay) s = .next (s.setPort p { s.port p with sent := [], store := forming 0x50 .busy [] }))
    ∧ (idle → s.control.mode = .holding ∨ s.control.mode = .held →
        exec (.holdScan p delay) s = .next (s.setPort p { s.port p with sent := [], store := forming 0x50 .rejected [] }))
    ∧ (idle → s.control.mode = .scanning → s.control.reservation = none →
        exec (.holdScan p delay) s = .next ((held.setPort p.other { s.port p.other with
          events := Event.addTo .modeChanged (s.port p.other).events }).setPort p mine))
    ∧ (idle → (s.control.mode = .scanning ∧ s.control.reservation ≠ none) ∨ s.control.mode = .survey →
        exec (.holdScan p delay) s = .next ((held.setPort p.other { s.port p.other with
          slot := .completed .coilSurvey .cancelled
          events := Event.addTo .modeChanged (Event.addTo .taskDone (s.port p.other).events) }).setPort p mine))

/-- RESUME_SCAN from the owner in HELD, and the auto-resume expiry, end the hold the same way: SCANNING with no owner, a
frame starts, the Search Cursor is reset, ModeChanged at both ports; from the other port NOT_OWNER, outside HELD REJECTED
(R38, R151, R152). That the auto-resume time passes first is the model's choice, log entry 2. The zeros driven (R121) are an empty `sent`, the model's own form, log entry 6. -/
def Obligations.HeldEndsByResumeOrExpiry : Prop :=
  ∀ (p : Port) (s : State), ModeOk s →
    let scanning (b : State) : State := { b with
      control := { b.control with mode := .scanning, owner := none, autoResume := none }
      search := sweepFrom (lowestEnabled b.settings.profiles) }
    let ends (b t : State) : Prop := FrameStarted (scanning b) t ∧ t.control.mode = .scanning ∧ t.control.owner = none
      ∧ t.control.autoResume = none ∧ t.search = sweepFrom (lowestEnabled s.settings.profiles)
      ∧ t.frame.sync = (if s.frame.sync = .locked then .seeking else s.frame.sync) ∧ t.frame.syncTimer = none
      ∧ ∀ q, Event.modeChanged.isIn (t.port q).events = true
    (s.control.mode = .held → s.control.owner = some p →
        ∃ t, exec (.resumeScan p) s = .next (t.setPort p { t.port p with sent := [], store := forming 0x51 .ok [] }) ∧ ends s t)
    ∧ (∀ d, s.control.autoResume = some d → ∃ t, exec .autoResumeExpiry s = .next t
        ∧ ends (s.elapse (10000 * s.control.resumeDelay - d)) t)
    ∧ (s.control.mode = .held → s.control.owner ≠ some p →
        exec (.resumeScan p) s = .next (s.setPort p { s.port p with sent := [], store := forming 0x51 .notOwner [] }))
    ∧ (s.control.mode ≠ .held → s.control.mode ≠ .starting →
        exec (.resumeScan p) s = .next (s.setPort p { s.port p with sent := [], store := forming 0x51 .rejected [] }))

/-- COIL_SURVEY: the checks in their order, and TAKEN with the reservation in this port's name (R126, R154). The zeros
driven (R121) are an empty `sent`, the model's own form, log entry 6. -/
def Obligations.CoilSurveyByState : Prop :=
  ∀ (p : Port) (kind profile : Byte) (s : State), s.control.mode ≠ .starting →
    let idle := ∀ k, (s.port p).slot ≠ .running k
    let allowed := kind = 0 ∨ (kind = 1 ∧ profile.toNat < 4)
    let answers (r : ResultCode) : Prop :=
      exec (.coilSurvey p kind profile) s = .next (s.setPort p { s.port p with sent := [], store := forming 0x52 r [] })
    (¬ idle → answers .busy)
    ∧ (idle → ¬ allowed → answers .badValue)
    ∧ (idle → allowed → s.control.mode ≠ .scanning ∨ s.control.reservation ≠ none → answers .rejected)
    ∧ (idle → allowed → s.control.mode = .scanning → s.control.reservation = none → s.control.capture ≠ none →
        answers .locked)
    ∧ (∀ f : Fin 4, idle → allowed → f.val = (if kind = 0 then 0 else profile.toNat) → s.control.mode = .scanning →
        s.control.reservation = none → s.control.capture = none →
        exec (.coilSurvey p kind profile) s = .next ({ s with control := { s.control with
            reservation := some { port := p, kind := if kind = 0 then .baseline else .response, profile := f } } }.setPort
          p { s.port p with slot := .running .coilSurvey, sent := [], store := forming 0x52 .taken [] }))

/-- READ_CAPTURE: the checks in their order, the entries asked for, and the buffer emptied by the owner's Unlock
(R159). The layout of the payload is the model's choice, log entry 9. The zeros driven (R121) are an empty `sent`, the
model's own form, log entry 6. -/
def Obligations.ReadCaptureByState : Prop :=
  ∀ (p : Port) (offset count unlock : Byte) (s : State), s.control.mode ≠ .starting →
    let allowed := unlock.toNat ≤ 1 ∧ offset.toNat ≤ 155 ∧ count ≠ 0
    let answers (r : ResultCode) : Prop :=
      exec (.readCapture p offset count unlock) s = .next (s.setPort p { s.port p with sent := [], store := forming 0x53 r [] })
    (¬ allowed → answers .badValue)
    ∧ (allowed → s.control.capture = none → answers .rejected)
    ∧ ∀ c, s.control.capture = some c → allowed →
        (unlock = 1 → c.owner ≠ p → answers .notOwner)
        ∧ (unlock = 0 ∨ c.owner = p → c.entries.length ≤ offset.toNat → answers .badValue)
        ∧ (unlock = 0 ∨ c.owner = p → offset.toNat < c.entries.length →
            exec (.readCapture p offset count unlock) s = .next ({ s with control := { s.control with
                capture := if unlock = 1 then none else s.control.capture } }.setPort p { s.port p with
              sent := []
              store := forming 0x53 .ok (u8 c.kind.num ++ u8 c.profile.val ++ u8 c.xCount ++ u8 c.yCount
                ++ u16 c.stamp.toNat ++ u8 c.entries.length
                ++ ((c.entries.drop offset.toNat).take (min count.toNat 48)).flatMap u16) }))

/-- PORT_RESET returns its own port's items to their start, drops its pending plan, its reservation and its capture, and
ends the mode it owns; of the other port only ModeChanged can be raised, unless a frame starts (R136). Out of HELD the
scan resumes, with a LOCKED sync state SEEKING (R17). The zeros driven (R121) are an empty `sent`, the model's own form,
log entry 6. -/
def Obligations.PortResetReturnsItsPort : Prop :=
  ∀ (p : Port) (s : State), ModeOk s → s.control.mode ≠ .starting →
    let plan := if s.frame.pendingPlan.map (·.issuer) = some p then none else s.frame.pendingPlan
    let reservation := if s.control.reservation.map (·.port) = some p then none else s.control.reservation
    let capture := if s.control.capture.map (·.owner) = some p then none else s.control.capture
    let fresh := { s with frame := { s.frame with pendingPlan := plan }, control := { s.control with reservation, capture } }
    let mine := { s.port p with
      cursor := s.nextSeq, watermark := 8, view := defaultView s.settings.xSpan s.settings.ySpan, events := 0,
      mask := 0x2807, tickPoint := .off, tickPending := false, list0 := [], list1 := [], slot := .empty,
      sent := []
      store := forming 0x70 .ok [] }
    let left := { fresh with control := { fresh.control with
      mode := .scanning, owner := none, survey := none, autoResume := none } }
    (s.control.owner ≠ some p → exec (.portReset p) s = .next (fresh.setPort p mine))
    ∧ (s.control.owner = some p → s.control.mode = .holding ∨ s.control.mode = .survey →
        exec (.portReset p) s = .next ((left.setPort p mine).setPort p.other { s.port p.other with
          events := Event.addTo .modeChanged (s.port p.other).events }))
    ∧ (s.control.owner = some p → s.control.mode = .held →
        ∃ t : State, exec (.portReset p) s = .next t ∧ FrameStarted { left.setPort p mine with
            search := sweepFrom (lowestEnabled s.settings.profiles) } t
          ∧ Event.modeChanged.isIn (t.port p.other).events = true ∧ Event.modeChanged.isIn (t.port p).events = false
          ∧ t.control.mode = .scanning ∧ t.control.owner = none ∧ t.control.autoResume = none
          ∧ t.frame.sync = (if s.frame.sync = .locked then .seeking else s.frame.sync) ∧ t.frame.syncTimer = none
          ∧ t.search = sweepFrom (lowestEnabled s.settings.profiles))

/-! ## Transactions -/

/-- FETCH_RESPONSE sends the frame of the mode and the store, then 0 in every byte clocked past its end, and changes nothing
but the store of a READY answer whose last byte was clocked out (R124, R178). UNKNOWN_CODE and BAD_LENGTH take the store
for their answer and do nothing else; ANSWER_READY makes a forming answer READY and leaves every other store (R122, R123).
In every byte of every other transaction the part drives 0 (R121, R175). What the port drove is kept in the model's own
field `sent`, log entry 6; that it drives nothing without power is log entry 7, and that a Fetch Response is one command at
its code byte is log entry 18, all the model's choice. -/
def Obligations.AnswerStore : Prop :=
  ∀ (p : Port) (clocked : Nat) (code : Byte) (s : State),
    let sends (frame : List Byte) (store : Store) : Prop :=
      ∃ sent, exec (.fetchResponse p clocked) s = .next (s.setPort p { s.port p with store, sent })
        ∧ sent.length = clocked ∧ ∀ k, k < clocked → sent[k]? = some (frame.getD k 0)
    (s.pins.power = true → s.control.mode = .starting → sends [1, 0, 0, 0, 0] (s.port p).store)
    ∧ (s.pins.power = true → s.control.mode ≠ .starting → (s.port p).store = .none → sends [2, 0, 0, 0, 0] .none)
    ∧ (∀ a, s.pins.power = true → s.control.mode ≠ .starting → (s.port p).store = .notReady a →
        sends [3, a.code, 0, 0, 0] (.notReady a))
    ∧ (∀ a, s.pins.power = true → s.control.mode ≠ .starting → (s.port p).store = .ready a →
        sends ([4, a.code] ++ u8 a.result.num ++ u16 a.payload.length ++ a.payload)
          (if 5 + a.payload.length ≤ clocked then .none else .ready a))
    ∧ (s.pins.power = false → exec (.fetchResponse p clocked) s = .next (s.setPort p { s.port p with sent := [] }))
    ∧ (∀ (c : Instr) (r : Byte), c.wf = true → transactionCode c = some (p, r) → r ≠ 0 →
        ∃ t, exec c s = .next t ∧ ∀ k, t.driven p k = 0)
    ∧ (s.control.mode ≠ .starting →
        exec (.unknownCode p code) s = .next (s.setPort p { s.port p with sent := [], store := forming code .unknown [] })
        ∧ exec (.badLength p code) s = .next (s.setPort p { s.port p with sent := [], store := forming code .badLength [] }))
    ∧ (∀ a, (s.port p).store = .notReady a → exec (.answerReady p) s = .next (s.setPort p { s.port p with store := .ready a }))
    ∧ ((∀ a, (s.port p).store ≠ .notReady a) → exec (.answerReady p) s = .next s)

/-! ## Restarts and keys -/

/-- COLD_RESTART, WARM_RESTART and the key restart: what each keeps and what each returns to its default (R167, R169,
R170, R174). POWER_ON, RESET_N_LOW, RESET_N_RISE and POWER_FAIL: a power-on restart begins with power good and RESET_N
high, and the part is held otherwise (R169, R171). The state while it is held or without power is log entry 7; that
POWER_ON and RESET_N_RISE act whatever the level was is log entry 20; that a Cold Restart stops the hold timer at the very
instant of its expiry too is log entry 25: all the model's choice. Elsewhere R173 states that it stops the timer. -/
def Obligations.RestartsAndPower : Prop :=
  ∀ (p : Port) (s : State),
    let warm (t : State) : Prop := Restarted t ∧ t.settings = s.settings ∧ t.epoch = s.epoch
      ∧ t.frame.activePlan = s.frame.activePlan
      ∧ t.frame.sync = (if s.settings.timing.syncMode = .locked then .seeking else .free)
      ∧ ∀ q, (t.port q).view = (s.port q).view ∧ (t.port q).mask = (s.port q).mask
          ∧ (t.port q).watermark = (s.port q).watermark
    let cold (t : State) : Prop := t.settings = defaultSettings ∧ t.epoch = 0 ∧ t.frame.activePlan = defaultPlan
      ∧ t.frame.sync = .free
      ∧ ∀ q, (t.port q).view = defaultView 24320 15104 ∧ (t.port q).mask = 0x2807 ∧ (t.port q).watermark = 8
    let begins (t : State) : Prop := Restarted t ∧ cold t ∧ t.keys = restKeys
    let heldBack (t : State) : Prop := Restarted { t with pins := { t.pins with startup := some 0 } } ∧ cold t
      ∧ t.keys = restKeys ∧ t.pins.startup = none
    (s.control.mode ≠ .starting → ∃ t, exec (.coldRestart p) s = .next t ∧ Restarted t ∧ cold t
        ∧ t.keys = { s.keys with hold := if s.settings.combo = .none then s.keys.hold else .stopped })
    ∧ (s.control.mode ≠ .starting → ∃ t, exec (.warmRestart p) s = .next t ∧ warm t ∧ t.keys = s.keys)
    ∧ (∀ d, s.keys.hold = .running d → ∃ t, exec .keyRestartHoldExpiry s = .next t ∧ warm t ∧ t.keys.hold = .spent
        ∧ t.keys.levels = s.keys.levels)
    ∧ (s.pins.resetN = true → ∃ t, exec .powerOn s = .next t ∧ begins t ∧ t.pins.power = true)
    ∧ (s.pins.resetN = false → ∃ t, exec .powerOn s = .next t ∧ heldBack t ∧ t.pins.power = true)
    ∧ (∃ t, exec .resetNLow s = .next t ∧ heldBack t ∧ t.pins.resetN = false)
    ∧ (s.pins.power = true → ∃ t, exec .resetNRise s = .next t ∧ begins t ∧ t.pins.resetN = true)
    ∧ (s.pins.power = false → exec .resetNRise s = .next { s with pins := { s.pins with resetN := true } })
    ∧ ∃ t, exec .powerFail s = .next t ∧ heldBack t ∧ t.pins.power = false

/-- STARTING_END: SCANNING with no owner, Restarted raised at both ports and no ModeChanged, and the first frame started
with nothing applied (R9, R171). That what is left of the 20 ms passes first is the model's choice, log entry 2. -/
def Obligations.StartingEndBeginsTheScan : Prop :=
  ∀ (s : State) (d : Nat), s.pins.startup = some d → s.control.mode = .starting → s.control.reservation = none →
    QuietOk s → s.frame.pendingPlan = none → s.waiting = noWaiting → s.frame.syncTimer = none →
    let late := s.elapse (20000 - d)
    ∃ t, exec .startingEnd s = .next t
      ∧ FrameStarted { late with control := { late.control with mode := .scanning, owner := none } } t
      ∧ t.pins.startup = none ∧ t.control.mode = .scanning ∧ t.control.owner = none ∧ t.settings = s.settings
      ∧ t.frame.activePlan = s.frame.activePlan ∧ t.frame.sync = s.frame.sync
      ∧ ∀ p, (t.port p).events = Event.restarted.set

/-- KEY_SAMPLE: each key's previous sample and accepted level, KeyChange exactly when a level is accepted, and the hold
timer, which looks at the combination's keys alone (R172, R173). That 4000 µs less the pace pass first, in the hold timer too, and the pace then reads 0, is the model's
choice, log entry 2. -/
def Obligations.KeySampleAcceptsLevels : Prop :=
  [.none, .k01, .k012, .all].map KeyCombo.size = [0, 2, 3, 4]
  ∧ (∀ (k : Keys) (c : KeyCombo), k.allPressed c = true ↔ ∀ i : Fin 4, i.val < c.size → (k.key i).accepted = true)
  ∧ ∀ (k0 k1 k2 k3 : Bool) (s : State), KeysOk s → s.pins.power = true → s.pins.resetN = true →
    let sample (i : Fin 4) : Bool := match i with
      | 0 => k0
      | 1 => k1
      | 2 => k2
      | 3 => k3
    let accepts (i : Fin 4) : Prop := (s.keys.key i).previous = some (sample i) ∧ sample i ≠ (s.keys.key i).accepted
    let passed := 4000 - s.keys.pace
    ∃ t, exec (.keySample k0 k1 k2 k3) s = .next t
      ∧ (∀ i, (t.keys.key i).previous = some (sample i))
      ∧ (∀ i, accepts i → (t.keys.key i).accepted = sample i)
      ∧ (∀ i, ¬ accepts i → (t.keys.key i).accepted = (s.keys.key i).accepted)
      ∧ t.keys.pace = 0
      ∧ (s.control.mode ≠ .starting → ∀ p, (t.port p).events
          = if (∃ i, accepts i) then Event.addTo .keyChange (s.port p).events else (s.port p).events)
      ∧ (s.keys.hold = .stopped → t.keys.hold
          = if (∃ i : Fin 4, i.val < s.settings.combo.size ∧ accepts i) ∧ t.keys.allPressed s.settings.combo = true
            then .running 0 else .stopped)
      ∧ (∀ d, s.keys.hold = .running d → t.keys.hold
          = if t.keys.allPressed s.settings.combo = true then .running (d + passed) else .stopped)
      ∧ (s.keys.hold = .spent → t.keys.hold
          = if (∃ i : Fin 4, i.val < s.settings.combo.size ∧ accepts i ∧ sample i = false) then .stopped else .spent)

/-! ## Frames -/

/-- The timed events of the frame. SCHEDULED_FRAME_START starts a frame in the TAIL and, by log entry 4, in a RUNNING
frame; with the frame timer STOPPED none is scheduled (R8, R9), and that the command then leaves the state is log entry 3. MID_POINT raises the MID_FRAME tick at each port whose tick
point it is, TickMissed where a tick is still pending (R10, R133). SYNC_TIMER_EXPIRY leaves SEEKING, the timer stopped, and
SyncLost at both ports, and so does a frame start that applies a Timing change whose expiry length has passed (R16). A frame
start that applies a change of SyncMode settles the sync state, stops the sync timer and raises nothing (R13). What
the timers read at the mid point and at the frame start is log entry 2; that a change to the same values counts is log entry
12. The four entries are the model's choice. -/
def Obligations.TimedFrameEvents : Prop :=
  ∀ s : State,
    (s.frame.phase ≠ .stopped → ∃ t, exec .scheduledFrameStart s = .next t
      ∧ FrameStarted (s.elapse (s.settings.timing.framePeriod - s.frame.timer)) t
      ∧ (let now := (s.settings.applied s.waiting).timing
        let old := s.settings.timing
        let quiet := ∀ p, Event.syncLost.isIn (t.port p).events = Event.syncLost.isIn (s.port p).events
        (now.syncMode = .locked → old.syncMode = .free → t.frame.sync = .seeking ∧ t.frame.syncTimer = none ∧ quiet)
        ∧ (now.syncMode = .free → old.syncMode = .locked → t.frame.sync = .free ∧ t.frame.syncTimer = none ∧ quiet)
        ∧ (now.syncMode = old.syncMode → s.frame.syncTimer = none →
            t.frame.sync = s.frame.sync ∧ t.frame.syncTimer = none ∧ quiet)
        ∧ (∀ d, now.syncMode = old.syncMode → s.frame.syncTimer = some d →
          let passed := d + (old.framePeriod - s.frame.timer)
          let expires := s.waiting.timing ≠ none ∧ 2 * now.syncRatio * now.framePeriod ≤ passed
          (expires → t.frame.sync = .seeking ∧ t.frame.syncTimer = none
            ∧ (s.control.mode ≠ .starting → ∀ p, Event.syncLost.isIn (t.port p).events = true))
          ∧ (¬ expires → t.frame.sync = s.frame.sync ∧ t.frame.syncTimer = some passed ∧ quiet))
        ∧ ∀ p, Event.syncRegained.isIn (t.port p).events = Event.syncRegained.isIn (s.port p).events))
    ∧ (s.frame.phase = .stopped → exec .scheduledFrameStart s = .next s)
    ∧ (s.control.mode ≠ .starting → s.frame.phase ≠ .stopped → s.frame.midDone = false →
        ∃ t, exec .midPoint s = .next t ∧ t.frame.midDone = true
          ∧ t.frame.timer = max s.frame.timer (s.settings.timing.framePeriod / 2)
          ∧ t.frame.count = s.frame.count ∧ t.frame.run = s.frame.run ∧ t.settings = s.settings
          ∧ t.control.mode = s.control.mode
          ∧ ∀ p, t.port p = { s.port p with
              tickPending := (s.port p).tickPending || (s.port p).tickPoint == .midFrame
              events :=
                if (s.port p).tickPoint = .midFrame ∧ (s.port p).tickPending = true then
                  Event.addTo .tickMissed (s.port p).events
                else (s.port p).events })
    ∧ ∀ d, s.control.mode ≠ .starting → s.frame.syncTimer = some d →
        ∃ t, exec .syncTimerExpiry s = .next t ∧ t.frame.sync = .seeking ∧ t.frame.syncTimer = none
          ∧ t.frame.count = s.frame.count ∧ t.frame.phase = s.frame.phase ∧ t.frame.run = s.frame.run
          ∧ t.control.mode = s.control.mode
          ∧ ∀ p, t.port p = { s.port p with events := Event.addTo .syncLost (s.port p).events }

/-- DSYNC: ignored in STARTING, HELD and FREE; in the TAIL the next frame starts at once; in a RUNNING frame it moves the
start before a slot has begun, and truncates the frame after (R14, R15). A slot has begun once its SLOT_BEGIN is taken or
the frame timer has reached its Start (R15). A frame that starts applies a Timing change that waits, and a change of its
SyncMode settles the sync state (R13). That the mid point falls again after a moved start is log entry 11; that the sync
state and timer are updated before the frame end, so that the entry to HELD sees LOCKED, is log entry 13: the model's
choice. -/
def Obligations.DsyncByModeAndPhase : Prop :=
  ∀ s : State, ModeOk s → (∀ ch, s.waiting.timing = some ch → TimingOk ch.value) →
    let told (t : State) : Prop := ∀ p, s.frame.sync = .seeking → Event.syncRegained.isIn (t.port p).events = true
    let mode := (s.settings.applied s.waiting).timing.syncMode
    let kept := mode = s.settings.timing.syncMode
    let changed : SyncState := if mode = .locked then .seeking else .free
    let relocked (t : State) : Prop := (kept → t.frame.sync = .locked ∧ t.frame.syncTimer = some 0)
      ∧ (¬ kept → t.frame.sync = changed ∧ t.frame.syncTimer = none)
    (s.control.mode = .starting ∨ s.control.mode = .held ∨ s.frame.sync = .free → exec .dsync s = .next s)
    ∧ (s.frame.window = none → planValid s.settings.timing.framePeriod s.frame.activePlan = true →
        (s.frame.slotBegun = true ↔ ∃ k : Fin 8, s.frame.activePlan[k].function ≠ 0
          ∧ (k.val < s.frame.next ∨ s.frame.activePlan[k].start.toNat ≤ s.frame.timer)))
    ∧ (∀ w, s.frame.window = some w → (s.frame.slotBegun = true ↔ 0 < s.frame.next ∨ 100 ≤ s.frame.timer))
    ∧ (s.control.mode ≠ .starting → s.control.mode ≠ .held → s.frame.sync ≠ .free →
        (s.frame.phase = .tail → ∃ t, exec .dsync s = .next t ∧ FrameStarted s t ∧ relocked t ∧ told t)
        ∧ (s.frame.phase = .running → s.frame.slotBegun = false → ∃ t, exec .dsync s = .next t
            ∧ t.frame.timer = 0 ∧ t.frame.midDone = false ∧ t.frame.count = s.frame.count
            ∧ t.frame.outcomes = s.frame.outcomes ∧ t.frame.next = s.frame.next ∧ t.settings = s.settings
            ∧ t.waiting = s.waiting ∧ t.frame.pendingPlan = s.frame.pendingPlan
            ∧ t.frame.sync = .locked ∧ t.frame.syncTimer = some 0 ∧ told t
            ∧ ∀ p, (t.port p).tickPending = (s.port p).tickPending)
        ∧ (s.frame.phase = .running → s.frame.slotBegun = true → ∃ t, exec .dsync s = .next t ∧ told t
            ∧ t.frame.lastFrame = some s.stamp ∧ t.frame.run = .none
            ∧ (∀ k : Fin 8, t.frame.lastOutcomes[k] = (s.frame.outcomes[k]).getD .truncated)
            ∧ t.settings = s.settings.applied s.waiting ∧ t.waiting = noWaiting
            ∧ (s.control.mode ≠ .holding → t.frame.count = s.frame.count + 1 ∧ t.frame.phase = .running
                ∧ t.frame.timer = 0 ∧ relocked t)
            ∧ (s.control.mode = .holding → t.frame.count = s.frame.count ∧ t.frame.phase = .stopped
                ∧ t.control.mode = .held ∧ (kept → t.frame.sync = .locked) ∧ (¬ kept → t.frame.sync = changed)
                ∧ t.frame.syncTimer = none)))

/-! ## Slots -/

/-- SLOT_BEGIN: a slot that is not needed ends NOT_NEEDED; a needed one runs from its Start, or, guarded with DRIVE_BUSY
high, waits out its slip or ends SKIPPED (R26, R27, R30). The times of a slot are its record's (R18), those of the survey
window 100, 200 or 0, 200 and Slip 0, guarded (R155), and the slots of a frame are the non-IDLE ones in index order. That time passes to the Start is log entry 2, that the job is
fixed here is log entry 14, and that the next slot to begin is the frame's next non-IDLE one is log entry 23: the model's
choice. -/
def Obligations.SlotBeginRunsWaitsOrEnds : Prop :=
  (∀ (f : Frame) (k : Fin 8),
    (f.window = none → f.slotTimes k =
      { start := f.activePlan[k].start.toNat, excite := f.activePlan[k].excite.toNat, listen := f.activePlan[k].listen.toNat,
        slip := f.activePlan[k].slip.toNat, guarded := f.activePlan[k].guard != 0 })
    ∧ ∀ w, f.window = some w → f.slotTimes k =
      { start := 100, excite := if w.kind = .response then 200 else 0, listen := 200, slip := 0, guarded := true })
  ∧ (∀ (plan : Plan) (i : Nat), nextSlot plan i ≤ 8 ∧ ∀ k : Fin 8,
      (i ≤ k.val → k.val < nextSlot plan i → plan[k].function = 0)
      ∧ (k.val = nextSlot plan i → i ≤ k.val ∧ plan[k].function ≠ 0))
  ∧ ∀ (s : State) (k : Fin 8), s.frame.phase = .running → s.frame.run = .none → s.frame.next = k.val →
    let w := s.frame.slotTimes k
    let at_ := s.elapse (w.start - s.frame.timer)
    let begun := { at_ with
      search := s.searchAtStart k
      frame := { at_.frame with next := if s.frame.window.isSome then 8 else nextSlot s.frame.activePlan (k.val + 1) } }
    let runs (r : SlotRun) : Prop := exec .slotBegin s = .next { begun with frame := { begun.frame with run := r } }
    (s.slotJob k = none → exec .slotBegin s = .next (begun.endSlot k .notNeeded))
    ∧ ∀ j, s.slotJob k = some j →
        (w.guarded = false ∨ s.pins.driveBusy = false → w.excite ≠ 0 → runs (.exciting k j (max s.frame.timer w.start)))
        ∧ (w.guarded = false ∨ s.pins.driveBusy = false → w.excite = 0 → runs (.listening k j (max s.frame.timer w.start)))
        ∧ (w.guarded = true → s.pins.driveBusy = true → w.slip ≠ 0 → runs (.waiting k j))
        ∧ (w.guarded = true → s.pins.driveBusy = true → w.slip = 0 →
            exec .slotBegin s = .next (begun.endSlot k .skipped))

/-- Which slots are needed: TRACK, TILT and CODE while their tool is not VACANT, SEARCH while a tool is VACANT and a
profile is enabled, NOISE always, the survey window always (R26, R39, R155); and what each drives and listens to, at which
frequency: windows of five about their centres, the code coil, the hit coil, bands clipped at the last coil (R3, R4, R5,
R39, R55, R155), every coil within the grid (R2). -/
def Obligations.SlotIsNeeded : Prop :=
  ∀ (s : State) (k : Fin 8), planValid s.settings.timing.framePeriod s.frame.activePlan = true →
    s.frame.activePlan[k].function ≠ 0 →
    let r := s.frame.activePlan[k]
    let c := s.settings
    let tool := s.tool (if r.tool = 0 then .t0 else .t1)
    let profile := c.profiles[tool.profile]
    let centre (count : Nat) (pos : Int) : Int := max 2 (min ((pos + 128) / 256) ((count : Int) - 3))
    let coils (axis : Axis) (n : Int) (l : List Coil) : Prop := l = [⟨axis, n⟩]
    let windows (x y : Int) (l : List Coil) : Prop :=
      l = [⟨.x, x - 2⟩, ⟨.x, x - 1⟩, ⟨.x, x⟩, ⟨.x, x + 1⟩, ⟨.x, x + 2⟩, ⟨.y, y - 2⟩, ⟨.y, y - 1⟩, ⟨.y, y⟩, ⟨.y, y + 1⟩, ⟨.y, y + 2⟩]
    let inBand (axis : Axis) (b : Nat) (q : Coil) : Prop :=
      q.axis = axis ∧ 12 * (b : Int) ≤ q.number ∧ q.number < 12 * b + 12 ∧ q.number < (c.coils axis : Int)
    ((s.slotJob k).isSome = true ↔
      s.frame.window.isSome = true ∨ r.function = 5
      ∨ (r.function = 1 ∧ ((s.tool .t0).state = .vacant ∨ (s.tool .t1).state = .vacant)
          ∧ ∃ i : Fin 4, s.settings.profiles[i].enabled = true)
      ∨ (2 ≤ r.function.toNat ∧ r.function.toNat ≤ 4 ∧ tool.state ≠ .vacant))
    ∧ (GridOk c → ∀ j, s.slotJob k = some j →
      (s.frame.window = none → r.function = 2 →
        let x := centre c.xCount (tool.raw.x + tool.rawV.x)
        let y := centre c.yCount (tool.raw.y + tool.rawV.y)
        j.frequency = some profile.tipFreq ∧ coils .x x (j.drives c) ∧ windows x y (j.listens c))
      ∧ (s.frame.window = none → r.function = 3 →
        let x := centre c.xCount (tool.ring.getD tool.raw).x
        let y := centre c.yCount (tool.ring.getD tool.raw).y
        j.frequency = some profile.ringFreq ∧ coils .x x (j.drives c) ∧ windows x y (j.listens c))
      ∧ (s.frame.window = none → r.function = 4 →
        let x := (tool.raw.x + 128) / 256
        j.frequency = some profile.tipFreq ∧ coils .x x (j.drives c) ∧ coils .x x (j.listens c))
      ∧ (s.frame.window = none → r.function = 1 → ∀ u, u = s.searchAtStart k →
        j.frequency = some c.profiles[u.profile].tipFreq
        ∧ (u.phase = .sweep → ∀ q, (q ∈ j.drives c ↔ inBand .x u.band q) ∧ (q ∈ j.listens c ↔ inBand .x u.band q))
        ∧ (∀ x, u.phase = .locate → u.hitX = some x →
            coils .x ((x + 128) / 256) (j.drives c) ∧ ∀ q, q ∈ j.listens c ↔ inBand .y u.band q))
      ∧ (s.frame.window = none → r.function = 5 →
        j.frequency = none ∧ j.drives c = [] ∧ ∀ q, q ∈ j.listens c ↔ inBand s.frame.noiseAxis s.frame.noiseBand q)
      ∧ (∀ w, s.frame.window = some w →
        j.frequency = (if w.kind = .response then some c.profiles[w.profile].tipFreq else none)
        ∧ ∀ q, (q ∈ j.drives c ↔ w.kind = .response
              ∧ ((w.xDone = false ∧ inBand .x w.bx q) ∨ (w.yDone = false ∧ inBand .y w.byy q)))
            ∧ (q ∈ j.listens c ↔ inBand .x w.bx q ∨ inBand .y w.byy q))
      ∧ (0 ≤ tool.raw.x → tool.raw.x ≤ c.xSpan → (∀ x, (s.searchAtStart k).hitX = some x → 0 ≤ x ∧ x ≤ c.xSpan) →
          ∀ q, q ∈ j.drives c ∨ q ∈ j.listens c → 0 ≤ q.number ∧ q.number < (c.coils q.axis : Int)))

/-- DRIVE_BUSY_FALL, DRIVE_BUSY_RISE, SLIP_EXPIRY and EXCITATION_END on the slot under way (R27 to R30). That time
passes to the slip's end and to the excitation's end is the model's choice, log entry 2. -/
def Obligations.SlotUnderWay : Prop :=
  ∀ (s : State) (k : Fin 8) (j : Job) (since : Nat),
    let w := s.frame.slotTimes k
    let low := { s with pins := { s.pins with driveBusy := false } }
    let high := { s with pins := { s.pins with driveBusy := true } }
    (s.frame.run = .waiting k j → s.frame.timer ≤ w.start + w.slip → w.excite ≠ 0 →
        exec .driveBusyFall s = .next { low with frame := { low.frame with run := .exciting k j s.frame.timer } })
    ∧ (s.frame.run = .waiting k j → s.frame.timer ≤ w.start + w.slip → w.excite = 0 →
        exec .driveBusyFall s = .next { low with frame := { low.frame with run := .listening k j s.frame.timer } })
    ∧ ((∀ k j, s.frame.run = .waiting k j → (s.frame.slotTimes k).start + (s.frame.slotTimes k).slip < s.frame.timer) →
        exec .driveBusyFall s = .next low)
    ∧ (s.frame.run = .exciting k j since ∨ s.frame.run = .listening k j since → w.guarded = true →
        exec .driveBusyRise s = .next (high.endSlot k .cut))
    ∧ (s.frame.run = .exciting k j since ∨ s.frame.run = .listening k j since → w.guarded = false →
        exec .driveBusyRise s = .next high)
    ∧ (s.frame.run = .none ∨ s.frame.run = .waiting k j → exec .driveBusyRise s = .next high)
    ∧ (s.frame.run = .waiting k j →
        exec .slipExpiry s = .next ((s.elapse (w.start + w.slip - s.frame.timer)).endSlot k .skipped))
    ∧ (s.frame.run = .exciting k j since →
        let t := s.elapse (since + w.excite - s.frame.timer)
        exec .excitationEnd s = .next { t with frame := { t.frame with run := .listening k j since } })

/-- LISTEN_END: the slot ends DONE, its observation handed on first: windows of five and the phase at the peak for TRACK,
windows for TILT, one amplitude and the symbol for CODE, the noise floor and cursor for NOISE, a band for the Search Walk,
both bands for a survey that is active (R4 to R7, R28, R32, R33, R157).
A band's channel past the last coil reads 0 (R3). Which channels a reading's window is, and that time passes to the listen
phase's end, are the model's choice, log entries 5 and 2. -/
def Obligations.ListenEndHandsOnItsObservation : Prop :=
  ∀ (s : State) (k : Fin 8) (j : Job) (since : Nat) (r : Reading), s.frame.run = .listening k j since → r.wf = true →
    let w := s.frame.slotTimes k
    let t := s.elapse (since + w.excite + w.listen - s.frame.timer)
    let channels (count b : Nat) (bank : List Nat) : List Nat :=
      (List.range 12).map fun i => if 12 * b + i < count then bank.getD i 0 else 0
    let handed (f : Frame) : Prop := exec (.listenEnd r) s = .next ({ t with frame := f }.endSlot k .done)
    (∀ i f cx cy, j = .track i f cx cy → handed (t.frame.setObs i { t.frame.obs i with
        track := some { cx, cy, xs := r.x.take 5, ys := r.y.take 5, phase := r.phase.getD (peakIndex (r.x.take 5)) 0 } }))
    ∧ (∀ i f cx cy, j = .tilt i f cx cy → handed (t.frame.setObs i { t.frame.obs i with
        tilt := some { cx, cy, xs := r.x.take 5, ys := r.y.take 5 } }))
    ∧ (∀ i f coil, j = .code i f coil → handed (t.frame.setObs i { t.frame.obs i with
        code := some { amplitude := r.x.getD 0 0, symbol := r.symbol } }))
    ∧ (∀ b, j = .noise .x b → handed { t.frame with
        noiseFloor := peakAmp (channels s.settings.xCount b r.x)
        noiseAxis := if b + 1 < bands s.settings.xCount then .x else .y
        noiseBand := if b + 1 < bands s.settings.xCount then b + 1 else 0 })
    ∧ (∀ b, j = .noise .y b → handed { t.frame with
        noiseFloor := peakAmp (channels s.settings.yCount b r.y)
        noiseAxis := if b + 1 < bands s.settings.yCount then .y else .x
        noiseBand := if b + 1 < bands s.settings.yCount then b + 1 else 0 })
    ∧ (∀ f b, j = .sweep f b → exec (.listenEnd r) s = .next ((t.sweepResult b r.x).endSlot k .done))
    ∧ (∀ f coil b, j = .locate f coil b → exec (.listenEnd r) s = .next ((t.locateResult b r.y).endSlot k .done))
    ∧ ∀ kind f bx byy xd yd, j = .survey kind f bx byy xd yd →
        exec (.listenEnd r) s
          = .next ((if s.control.mode = .survey then t.storeSurvey r.x r.y else t).endSlot k .done)

/-- A slot that ends with slots still to come takes its outcome and nothing else; the last one ends the frame (R28, R31). A
frame end makes the frame the last completed one and enters the TAIL; in HOLDING it enters HELD with every tool
VACANT, the pending settings applied and the task DONE; in SURVEY it completes or times out the survey (R11, R17, R142,
R150, R156, R157). Whatever the mode, the Track Engine ends both tools' frames from what R47 says it reads: their records
(R101, R102) join the ring, T0's first (R103), both snapshots are rewritten (R112), a change of code enters the tool's list at both ports (R94), and ToolEnter,
ToolLeave, IdentityKnown and SamplesWaiting are raised at each port (R54, R56, R99, R107). -/
def Obligations.FrameEndByMode : Prop :=
  ∀ s : State, ModeOk s → TasksOk s →
    let t := s.frameEnd
    let stamp : BitVec 16 := s.frame.count.setWidth 16
    (∀ (k : Fin 8) (o : SlotOutcome),
      let ended := { s with frame := { s.frame with run := .none, outcomes := s.frame.outcomes.set k (some o) } }
      (s.frame.next < 8 → s.endSlot k o = ended) ∧ (8 ≤ s.frame.next → s.endSlot k o = ended.frameEnd))
    ∧ t.frame.lastFrame = some stamp ∧ (∀ k : Fin 8, t.frame.lastOutcomes[k] = (s.frame.outcomes[k]).getD .idle)
    ∧ t.frame.run = .none ∧ t.frame.count = s.frame.count ∧ t.frame.activePlan = s.frame.activePlan
    ∧ (∀ i, let e := s.trackEnv i
        e.settings = s.settings ∧ e.effHold = max s.settings.tracking.hold s.frame.noiseFloor ∧ e.count = s.frame.count
        ∧ e.obs = (if i = .t0 then s.frame.obs0 else s.frame.obs1) ∧ (e.entersHeld = true ↔ s.control.mode = .holding)
        ∧ (e.trackUnneeded = true ↔ ∀ k : Fin 8, s.frame.activePlan[k].function = 2 →
            (s.frame.activePlan[k].tool = 0 ↔ i = .t0) → s.frame.outcomes[k] = some .notNeeded))
    ∧ (RingOk s → s.control.mode ≠ .starting →
        let e0 := toolFrameEnd (s.trackEnv .t0) s.tool0
        let e1 := toolFrameEnd (s.trackEnv .t1) s.tool1
        let record (i : ToolId) (u : Tool) (d : Draft) : Sample :=
          { seq := 0, stamp, kind := d.kind, tool := i, code := u.acceptedCode.getD 0, pos := u.rep.getD ⟨0, 0⟩,
            pressure := u.pressure, tilt := u.tilt, stroke := u.stroke, tiltStale := u.tiltStale,
            tiltClamped := u.tiltClamped, edgeX := d.edgeX, edgeY := d.edgeY, held := d.held, codeChanged := d.codeChanged }
        let rs := (e0.draft.map (record .t0 e0.tool)).toList ++ (e1.draft.map (record .t1 e1.tool)).toList
        let joined := s.ring ++ rs.zipIdx.map fun (r, i) => { r with seq := s.nextSeq + BitVec.ofNat 16 i }
        let wrote (e : ToolEnd) (kind : SampleKind) : Bool := e.draft.map (·.kind) == some kind
        let after (u : Tool) (lastSeq : Option (BitVec 16)) : Snapshot :=
          { state := u.state, profile := u.profile, rep := u.rep, pressure := u.pressure, tilt := u.tilt,
            tiltStale := u.tiltStale, tiltClamped := u.tiltClamped, code := u.acceptedCode, stroke := u.stroke,
            strokeOpen := u.strokeOpen, identityStatus := u.identityStatus,
            identity := if u.identityStatus = .known then u.identity else none, lastSeq, stamp }
        t.tool0 = (if e0.tool.state = .vacant then vacantTool else e0.tool)
        ∧ t.tool1 = (if e1.tool.state = .vacant then vacantTool else e1.tool)
        ∧ t.ring = joined.drop (joined.length - 512) ∧ t.nextSeq = s.nextSeq + BitVec.ofNat 16 rs.length
        ∧ t.snap0 = after e0.tool (if e0.draft.isSome then some s.nextSeq else s.snap0.lastSeq)
        ∧ t.snap1 = after e1.tool
            (if e1.draft.isSome then some (if e0.draft.isSome then s.nextSeq + 1 else s.nextSeq) else s.snap1.lastSeq)
        ∧ ∀ p, (e0.change = none → (t.port p).list0 = (s.port p).list0)
          ∧ (e1.change = none → (t.port p).list1 = (s.port p).list1)
          ∧ (∀ c, e0.change = some c → (t.port p).list0 = (s.port p).list0.take 1 ++ [c])
          ∧ (∀ c, e1.change = some c → (t.port p).list1 = (s.port p).list1.take 1 ++ [c])
          ∧ (Event.toolEnter.isIn (t.port p).events
              = (Event.toolEnter.isIn (s.port p).events || wrote e0 .enter || wrote e1 .enter))
          ∧ (Event.toolLeave.isIn (t.port p).events
              = (Event.toolLeave.isIn (s.port p).events || wrote e0 .leave || wrote e1 .leave))
          ∧ (Event.identityKnown.isIn (t.port p).events = (Event.identityKnown.isIn (s.port p).events || e0.known || e1.known))
          ∧ (Event.samplesWaiting.isIn (t.port p).events
              = (Event.samplesWaiting.isIn (s.port p).events || decide ((s.port p).watermark ≤ t.backlog p)))
          ∧ (Event.overrun.isIn (t.port p).events
              = (Event.overrun.isIn (s.port p).events || decide (512 < s.backlog p + rs.length))))
    ∧ (s.control.mode = .scanning → t.frame.phase = .tail ∧ t.control = s.control ∧ t.settings = s.settings
        ∧ t.waiting = s.waiting)
    ∧ (∀ p, s.control.mode = .holding → s.control.owner = some p →
        t.control.mode = .held ∧ t.control.owner = some p ∧ t.frame.phase = .stopped ∧ t.frame.syncTimer = none
        ∧ t.settings = s.settings.applied s.waiting ∧ t.waiting = noWaiting ∧ (∀ i, t.tool i = vacantTool)
        ∧ (t.port p).slot = .completed .holdScan .ok ∧ Event.taskDone.isIn (t.port p).events = true
        ∧ (∀ q, Event.modeChanged.isIn (t.port q).events = true)
        ∧ t.control.autoResume = (if s.control.resumeDelay = 0 then none else some 0))
    ∧ ∀ p v, s.control.mode = .survey → s.control.owner = some p → s.control.survey = some v →
        let ended (r : ResultCode) : Prop := t.control.mode = .scanning ∧ t.control.owner = none ∧ t.control.survey = none
          ∧ (t.port p).slot = .completed .coilSurvey r ∧ Event.taskDone.isIn (t.port p).events = true
          ∧ (∀ q, Event.modeChanged.isIn (t.port q).events = true)
        (v.xDone = true → v.yDone = true → ended .ok
          ∧ t.control.capture = some
              { kind := v.kind, profile := v.profile, xCount := s.settings.xCount, yCount := s.settings.yCount,
                stamp, entries := v.xs ++ v.ys, owner := p })
        ∧ (v.xDone = false ∨ v.yDone = false → 64 ≤ v.frames → ended .timedOut ∧ t.control.capture = none)
        ∧ (v.xDone = false ∨ v.yDone = false → v.frames < 64 → t.control = s.control)

/-- A survey frame's DONE window stores each axis's band and moves its cursor; a band's coils past the last one are not
stored (R156). That bands are stored by appending is the model's choice, log entry 17. -/
def Obligations.SurveyStoresBands : Prop :=
  ∀ (v : Survey) (c : Settings) (x y : List Nat), x.length = 12 → y.length = 12 → (∀ a ∈ x, a ≤ 4095) → (∀ a ∈ y, a ≤ 4095) →
    let u := v.store c x y
    (v.xDone = true → u.xs = v.xs ∧ u.bx = v.bx ∧ u.xDone = true)
    ∧ (v.xDone = false → v.xs.length = 12 * v.bx → 12 * v.bx < c.xCount →
        u.xs = v.xs ++ x.take (c.xCount - 12 * v.bx) ∧ (∀ i, 12 * v.bx ≤ i → i < min (12 * v.bx + 12) c.xCount →
          u.xs[i]? = x[i - 12 * v.bx]?)
        ∧ (12 * (v.bx + 1) < c.xCount → u.xDone = false ∧ u.bx = v.bx + 1 ∧ u.xs.length = 12 * u.bx)
        ∧ (c.xCount ≤ 12 * (v.bx + 1) → u.xDone = true ∧ u.bx = v.bx ∧ u.xs.length = c.xCount))
    ∧ (v.yDone = true → u.ys = v.ys ∧ u.byy = v.byy ∧ u.yDone = true)
    ∧ (v.yDone = false → v.ys.length = 12 * v.byy → 12 * v.byy < c.yCount →
        u.ys = v.ys ++ y.take (c.yCount - 12 * v.byy) ∧ (∀ i, 12 * v.byy ≤ i → i < min (12 * v.byy + 12) c.yCount →
          u.ys[i]? = y[i - 12 * v.byy]?)
        ∧ (12 * (v.byy + 1) < c.yCount → u.yDone = false ∧ u.byy = v.byy + 1 ∧ u.ys.length = 12 * u.byy)
        ∧ (c.yCount ≤ 12 * (v.byy + 1) → u.yDone = true ∧ u.byy = v.byy ∧ u.ys.length = c.yCount))
    ∧ u.kind = v.kind ∧ u.profile = v.profile ∧ u.frames = v.frames

/-- The Search Walk. In SWEEP a peak at or above EffAcquire that no tracked tool excludes begins a LOCATE at its position;
any other goes on to the next band, and after the last band to the next enabled profile (R40, R41). In LOCATE a peak above
BestAmp is kept with its position; after the last Y band the candidate is placed in the lowest VACANT record unless it is
too weak or a tracked tool excludes it, and the sweep goes on after the hit band (R42, R43). A SEARCH slot with work first
moves the cursor off a disabled profile (R39). The next enabled profile is the next in cyclic order, or the profile itself
where no other is enabled (R37, R39, R40). -/
def Obligations.SearchSweepFindsAHit : Prop :=
  (∀ (profiles : Vector Profile 4) (i : Fin 4),
    let enabled (j : Fin 4) : Prop := profiles[j].enabled = true
    let j := nextEnabled profiles i
    ((∃ n : Fin 3, j = i + 1 + n.castSucc ∧ enabled j ∧ ∀ m : Fin 3, m < n → ¬ enabled (i + 1 + m.castSucc))
      ∨ (j = i ∧ ∀ m : Fin 3, ¬ enabled (i + 1 + m.castSucc)))
    ∧ sweepFrom i = { phase := .sweep, profile := i, band := 0, hitX := none, bestAmp := none, bestY := none })
  ∧ (∀ (s : State) (b : Nat) (bank : List Nat),
    let amps := bandAmps s.settings.xCount b bank
    let x := bandPosition b amps s.settings.xSpan
    let excluded := ∃ i, (s.tool i).state ≠ .vacant ∧ (s.tool i).profile = s.search.profile
      ∧ -512 ≤ (s.tool i).raw.x - x ∧ (s.tool i).raw.x - x ≤ 512
    let t := s.sweepResult b bank
    t = { s with search := t.search }
    ∧ (s.effAcquire ≤ peakAmp amps → ¬ excluded →
        t.search = { phase := .locate, profile := s.search.profile, band := 0, hitX := some x, bestAmp := some 0, bestY := none })
    ∧ (peakAmp amps < s.effAcquire ∨ excluded → b + 1 < bands s.settings.xCount →
        t.search = { phase := .sweep, profile := s.search.profile, band := b + 1, hitX := none, bestAmp := none, bestY := none })
    ∧ (peakAmp amps < s.effAcquire ∨ excluded → bands s.settings.xCount ≤ b + 1 →
        t.search = sweepFrom (nextEnabled s.settings.profiles s.search.profile)))
  ∧ (∀ (s : State) (b : Nat) (bank : List Nat) (x : Int) (best : Nat), s.search.hitX = some x → 0 ≤ x →
      s.search.bestAmp = some best →
    let amps := bandAmps s.settings.yCount b bank
    let better := best < peakAmp amps
    let amp := if better then peakAmp amps else best
    let y := if better then some (bandPosition b amps s.settings.ySpan) else s.search.bestY
    let profile := s.search.profile
    let hit := ((x + 128) / 256 / 12).toNat
    let near (y : Int) : Prop := ∃ i, (s.tool i).state ≠ .vacant ∧ (s.tool i).profile = profile
      ∧ -512 ≤ (s.tool i).raw.x - x ∧ (s.tool i).raw.x - x ≤ 512 ∧ -512 ≤ (s.tool i).raw.y - y ∧ (s.tool i).raw.y - y ≤ 512
    let placed (y : Int) : Tool := { vacantTool with state := .acquire, profile, raw := ⟨x, y⟩, lastObs := s.frame.count }
    let t := s.locateResult b bank
    t = { s with search := t.search, tool0 := t.tool0, tool1 := t.tool1 }
    ∧ (b + 1 < bands s.settings.yCount →
        t = { s with search := { s.search with band := b + 1, bestAmp := some amp, bestY := y } })
    ∧ (bands s.settings.yCount ≤ b + 1 →
        (hit + 1 < bands s.settings.xCount →
          t.search = { phase := .sweep, profile, band := hit + 1, hitX := none, bestAmp := none, bestY := none })
        ∧ (bands s.settings.xCount ≤ hit + 1 → t.search = sweepFrom (nextEnabled s.settings.profiles profile))
        ∧ (y = none ∨ amp < s.effAcquire ∨ (∃ v, y = some v ∧ near v) → t.tool0 = s.tool0 ∧ t.tool1 = s.tool1)
        ∧ ∀ v, y = some v → s.effAcquire ≤ amp → ¬ near v →
            (s.tool0.state = .vacant → t.tool0 = placed v ∧ t.tool1 = s.tool1)
            ∧ (s.tool0.state ≠ .vacant → s.tool1.state = .vacant → t.tool0 = s.tool0 ∧ t.tool1 = placed v)))
  ∧ ∀ (s : State) (k : Fin 8),
    let enabled (i : Fin 4) : Prop := s.settings.profiles[i].enabled = true
    let work := s.frame.window = none ∧ s.frame.activePlan[k].function = 1
      ∧ (s.tool0.state = .vacant ∨ s.tool1.state = .vacant) ∧ ∃ i, enabled i
    (¬ work ∨ enabled s.search.profile → s.searchAtStart k = s.search)
    ∧ (work → ¬ enabled s.search.profile → ∃ n : Fin 3,
        s.searchAtStart k
          = { phase := .sweep, profile := s.search.profile + 1 + n.castSucc, band := 0, hitX := none, bestAmp := none, bestY := none }
        ∧ enabled (s.search.profile + 1 + n.castSucc) ∧ ∀ m : Fin 3, m < n → ¬ enabled (s.search.profile + 1 + m.castSucc))

/-! ## Sample Ring -/

/-- The append of a frame end: the records join in order with consecutive Seq values, the oldest leave past 512, and each
port whose backlog would pass 512 overruns by exactly the excess; the other port is not touched by it (R103 to R106). -/
def Obligations.AppendAndOverrun : Prop :=
  ∀ (s : State) (rs : List Sample), RingOk s → s.control.mode ≠ .starting → rs.length = 1 ∨ rs.length = 2 →
    let t := s.append rs
    let joined := s.ring ++ rs.zipIdx.map fun (r, i) => { r with seq := s.nextSeq + BitVec.ofNat 16 i }
    t.ring = joined.drop (joined.length - 512)
    ∧ t.nextSeq = s.nextSeq + BitVec.ofNat 16 rs.length
    ∧ ∀ p,
        (s.backlog p + rs.length ≤ 512 → t.port p = s.port p ∧ t.backlog p = s.backlog p + rs.length)
        ∧ (512 < s.backlog p + rs.length → t.backlog p = 512
            ∧ t.port p = { s.port p with
                cursor := (s.port p).cursor + BitVec.ofNat 16 (s.backlog p + rs.length - 512)
                events := Event.addTo .overrun (s.port p).events })

/-! ## Track Engine -/

/-- The transitions of a tool at a frame end: a release mark or the entry to HELD makes it leave; else ACQUIRE, HOVER,
CONTACT and FADE against a missing, weak and strong frame, with the record each writes (R47 to R54, R56, R57). How the
placement frame is recognised is the model's choice, log entry 15. A strong frame takes the velocities over the gap (R48), holds the
reported position within the deadband (R70), and adapts PhaseZero where the tool hovers on (R77). The tilt step computes a
fresh tilt or holds the old one, within TiltLimit (R83, R86 to R88); a LEAVE clamps the tilt it carries (R89). The corrected
position is the raw one moved by the map and brought within the grid (R68). The code step
runs on the frame's CODE observation for a tool in HOVER, CONTACT or FADE after its transition, and for no other (R91, R93,
R99). The reported pressure is the curve's in CONTACT and 0 otherwise (R82). A strong frame's record carries the edge peaks
of its TRACK observation and the code's change, a LEAVE record no flag (R54, R63). -/
def Obligations.ToolTransitions : Prop :=
  ∀ (e : TrackEnv) (t : Tool), t.state ≠ .vacant →
    let r := toolFrameEnd e t
    let u := r.tool
    let kind := r.draft.map (·.kind)
    let limit (v : Pt) : Pt :=
      ⟨max (-(e.settings.tracking.tiltLimit : Int)) (min v.x e.settings.tracking.tiltLimit),
       max (-(e.settings.tracking.tiltLimit : Int)) (min v.y e.settings.tracking.tiltLimit)⟩
    let clamped : Prop := u.tilt = limit t.tilt ∧ u.tiltClamped = (t.tiltClamped || limit t.tilt != t.tilt)
    let coded (v : Tool) : Prop := u.codeCandidate = v.codeCandidate ∧ u.acceptedCode = v.acceptedCode
      ∧ u.assembly = v.assembly ∧ u.identityStatus = v.identityStatus ∧ u.identityCandidate = v.identityCandidate
      ∧ u.identity = v.identity
    let uncoded : Prop := r.change = none ∧ r.known = false
    let leaves : Prop := u.state = .vacant ∧ uncoded
      ∧ r.draft = (if t.state = .acquire then none
          else some { kind := .leave, edgeX := false, edgeY := false, held := false, codeChanged := false })
      ∧ (t.state ≠ .acquire → clamped ∧ u.tiltStale = t.tiltStale ∧ coded t ∧ u.rep = t.rep ∧ u.stroke = t.stroke
          ∧ u.pressure = 0)
    let motion : Prop := kind = some (if r.change.isSome then .code else .motion)
    let k := e.settings.tracking
    (t.releaseMark = true ∨ e.entersHeld = true → leaves)
    ∧ (t.releaseMark = false → e.entersHeld = false →
      -- no TRACK observation
      (e.obs.track = none → t.lastObs = e.count → e.trackUnneeded = true → u = t ∧ r.draft = none ∧ uncoded)
      ∧ (e.obs.track = none → t.lastObs ≠ e.count ∨ e.trackUnneeded = false →
          (k.missLimit ≤ t.missCount + 1 → leaves)
          ∧ (t.missCount + 1 < k.missLimit → u.state = t.state ∧ r.draft = none ∧ u.missCount = t.missCount + 1
              ∧ u.rep = t.rep ∧ u.raw = t.raw ∧ u.n = t.n ∧ u.fadeCount = t.fadeCount ∧ u.confirmCount = t.confirmCount
              ∧ u.strokeOpen = t.strokeOpen ∧ u.stroke = t.stroke ∧ u.lastObs = t.lastObs
              ∧ u.vel = t.vel ∧ u.rawV = t.rawV ∧ u.phaseZero = t.phaseZero
              ∧ u.pressure = (if t.state = .contact then curve e.settings.pressure t.n else 0)))
      -- weak
      ∧ (∀ o, e.obs.track = some o → strength o.xs o.ys < e.effHold →
          let fade := if t.state = .fade then t.fadeCount + 1 else 1
          (t.state = .acquire ∨ k.fadeFrames ≤ fade → leaves)
          ∧ (t.state ≠ .acquire → fade < k.fadeFrames → u.state = .fade ∧ r.draft = none ∧ u.fadeCount = fade
              ∧ u.missCount = 0 ∧ u.rep = t.rep ∧ u.n = t.n ∧ u.strokeOpen = t.strokeOpen ∧ u.stroke = t.stroke
              ∧ u.pressure = 0 ∧ u.vel = t.vel ∧ u.rawV = t.rawV ∧ u.phaseZero = t.phaseZero))
      -- the code step
      ∧ (u.state = .acquire → coded t ∧ uncoded)
      ∧ (e.obs.track ≠ none ∨ t.lastObs ≠ e.count ∨ e.trackUnneeded = false → u.state ≠ .vacant → u.state ≠ .acquire →
          let v := validSymbol e.effHold e.obs.code
          coded (t.codeStep v) ∧ r.change = codeChangeOf t v
          ∧ (r.known = true ↔ t.identityStatus ≠ .known ∧ u.identityStatus = .known))
      -- the tilt step
      ∧ (e.obs.track ≠ none ∨ t.lastObs ≠ e.count ∨ e.trackUnneeded = false → u.state ≠ .vacant → u.state ≠ .acquire →
          let strongTrack := ∃ o, e.obs.track = some o ∧ e.effHold ≤ strength o.xs o.ys
          ((∀ o, e.obs.tilt = some o → strength o.xs o.ys < e.effHold) → u.ring = t.ring ∧ clamped ∧ u.tiltStale = true)
          ∧ ∀ o, e.obs.tilt = some o → e.effHold ≤ strength o.xs o.ys →
              let height := e.settings.profiles[t.profile].ringHeight
              let lean : Pt := ⟨leanAngle ((tiltRaw e.settings o).x - u.raw.x) height,
                leanAngle ((tiltRaw e.settings o).y - u.raw.y) height⟩
              u.ring = some (tiltRaw e.settings o)
              ∧ (strongTrack → edgePeak o.xs = false → edgePeak o.ys = false →
                  u.tilt = limit lean ∧ u.tiltStale = false ∧ u.tiltClamped = (limit lean != lean))
              ∧ (¬ strongTrack ∨ edgePeak o.xs = true ∨ edgePeak o.ys = true → clamped ∧ u.tiltStale = true))
      -- strong
      ∧ ∀ o, e.obs.track = some o → e.effHold ≤ strength o.xs o.ys →
          let pos := corrected e.settings (trackRaw e.settings o)
          let pr := signedOffset o.phase t.phaseZero
          let n := normalised pr e.settings.profiles[t.profile].phaseSpan
          let gap : Int := (e.count - t.lastObs).toNat
          let keeps (rep : Pt) : Bool := (pos.x - rep.x).natAbs ≤ k.deadband && (pos.y - rep.y).natAbs ≤ k.deadband
          let opens : Prop := u.state = .contact ∧ kind = some .strokeBegin ∧ u.stroke = t.stroke + 1 ∧ u.strokeOpen = true
            ∧ u.phaseZero = t.phaseZero ∧ u.pressure = curve e.settings.pressure n
          let closes : Prop := u.state = .hover ∧ kind = some .strokeEnd ∧ u.strokeOpen = false ∧ u.stroke = t.stroke
            ∧ u.pressure = 0 ∧ u.phaseZero = t.phaseZero
          let stays : Prop := u.state = .contact ∧ motion ∧ u.stroke = t.stroke ∧ u.strokeOpen = t.strokeOpen
            ∧ u.pressure = curve e.settings.pressure n ∧ u.phaseZero = t.phaseZero
          let hovers : Prop := u.state = .hover ∧ motion ∧ u.stroke = t.stroke ∧ u.strokeOpen = t.strokeOpen
            ∧ u.pressure = 0
            ∧ (u.phaseZero : Int) = (if pr.natAbs ≤ 32 then (t.phaseZero + pr.tdiv 8) % 1024 else t.phaseZero)
          u.missCount = 0 ∧ u.lastObs = e.count ∧ u.raw = trackRaw e.settings o ∧ u.pos = some pos
          ∧ (GridOk e.settings → ∀ m, m = mapOffset e.settings u.raw →
              pos = ⟨max 0 (min (u.raw.x + m.x) e.settings.xSpan), max 0 (min (u.raw.y + m.y) e.settings.ySpan)⟩)
          ∧ (∀ d, r.draft = some d → d.edgeX = edgePeak o.xs ∧ d.edgeY = edgePeak o.ys ∧ d.codeChanged = r.change.isSome)
          ∧ (t.state = .acquire → t.confirmCount < 2 → u.state = .acquire ∧ r.draft = none ∧ u.confirmCount = t.confirmCount + 1)
          ∧ (t.state = .acquire → 2 ≤ t.confirmCount → u.state = .hover ∧ kind = some .enter ∧ u.rep = some pos
              ∧ u.phaseZero = e.settings.profiles[t.profile].nominalZero ∧ u.vel = ⟨0, 0⟩ ∧ u.pressure = 0
              ∧ u.strokeOpen = false ∧ u.fadeCount = 0 ∧ r.draft.map (·.held) = some false)
          ∧ (t.state = .acquire → t.rawV = ⟨0, 0⟩ → t.vel = ⟨0, 0⟩ → u.rawV = ⟨0, 0⟩ ∧ u.vel = ⟨0, 0⟩)
          ∧ (t.state ≠ .acquire → u.n = n
              ∧ u.rawV = ⟨(u.raw.x - t.raw.x).tdiv gap, (u.raw.y - t.raw.y).tdiv gap⟩
              ∧ (∀ old, t.pos = some old → u.vel = ⟨(pos.x - old.x).tdiv gap, (pos.y - old.y).tdiv gap⟩)
              ∧ ∀ rep, t.rep = some rep → u.rep = some (if keeps rep then rep else pos)
                  ∧ r.draft.map (·.held) = some (keeps rep))
          ∧ (t.state = .hover → e.settings.pressure.down ≤ n → opens)
          ∧ (t.state = .hover → n < e.settings.pressure.down → hovers)
          ∧ (t.state = .contact → e.settings.pressure.up ≤ n → stays)
          ∧ (t.state = .contact → n < e.settings.pressure.up → closes)
          ∧ (t.state = .fade → u.fadeCount = 0
              ∧ (t.strokeOpen = true → e.settings.pressure.up ≤ n → stays)
              ∧ (t.strokeOpen = true → n < e.settings.pressure.up → closes)
              ∧ (t.strokeOpen = false → e.settings.pressure.down ≤ n → opens)
              ∧ (t.strokeOpen = false → n < e.settings.pressure.down → hovers)))

/-- The code debounce and the identity: a code is accepted at the second of two equal valid codes, an invalid or missing
observation breaks the run and discards the assembly, the 32nd bit hands its value on, two equal values make the identity
KNOWN and a different one withdraws it (R92, R97, R98). A CODE observation is valid when it is strong enough and the parity
of its four code bits is even (R90); an acceptance is a change when the accepted code was another or absent (R93). -/
def Obligations.CodeAndIdentity : Prop :=
  (∀ hold : Nat, validSymbol hold none = none
    ∧ ∀ o : CodeObs,
      let bit (i : Nat) : Nat := (o.symbol.code.getLsbD i).toNat
      (hold ≤ o.amplitude → (bit 0 + bit 1 + bit 2 + bit 3) % 2 = 0 → validSymbol hold (some o) = some o.symbol)
      ∧ (o.amplitude < hold ∨ (bit 0 + bit 1 + bit 2 + bit 3) % 2 = 1 → validSymbol hold (some o) = none))
  ∧ (∀ (t : Tool) (v : Option Symbol) (c : BitVec 4), codeChangeOf t v = some c ↔
      (∃ y, v = some y ∧ y.code = c) ∧ t.codeCandidate = some c ∧ t.acceptedCode ≠ some c)
  ∧ ∀ (t : Tool) (v : Option Symbol),
    let u := t.codeStep v
    (v = none → u = { t with codeCandidate := none, assembly := none })
    ∧ ∀ y, v = some y →
        u.codeCandidate = some y.code
        ∧ u.acceptedCode = (if t.codeCandidate = some y.code then some y.code else t.acceptedCode)
        ∧ (y.marker = true → u.assembly = some [y.bit])
        ∧ (∀ bits, y.marker = false → t.assembly = some bits → bits.length < 32 → u.assembly = some (bits ++ [y.bit]))
        ∧ (y.marker = false → t.assembly = none ∨ (∃ bits, t.assembly = some bits ∧ 32 ≤ bits.length) → u.assembly = t.assembly)
        ∧ (y.marker = true ∨ (∀ bits, t.assembly = some bits → bits.length ≠ 31) →
            u.identityStatus = t.identityStatus ∧ u.identityCandidate = t.identityCandidate ∧ u.identity = t.identity)
        ∧ ∀ bits w, y.marker = false → t.assembly = some bits → bits.length = 31 →
            (∀ i : Fin 32, w.getLsbD i.val = (bits ++ [y.bit]).getD (31 - i.val) false) →
            (t.identityStatus = .unknown →
              u.identityStatus = .partly ∧ u.identityCandidate = some w ∧ u.identity = none)
            ∧ (t.identityStatus = .partly → t.identityCandidate = some w →
              u.identityStatus = .known ∧ u.identityCandidate = some w ∧ u.identity = some w)
            ∧ (t.identityStatus = .partly → t.identityCandidate ≠ some w →
              u.identityStatus = .partly ∧ u.identityCandidate = some w ∧ u.identity = none)
            ∧ (t.identityStatus = .known → t.identity = some w →
              u.identityStatus = .known ∧ u.identityCandidate = t.identityCandidate ∧ u.identity = some w)
            ∧ (t.identityStatus = .known → t.identity ≠ some w →
              u.identityStatus = .partly ∧ u.identityCandidate = some w ∧ u.identity = none)

/-! ## Arithmetic -/

/-- The three-point rule: off an edge the left neighbour is strictly below the peak, the offset is the rounded quotient of
R61, a half away from zero, within half a pitch, and reaches +128 where the right neighbour equals the peak; on an edge it
is 0; the raw position is 256 times the peak's coil plus the offset, brought within the span, a window's first coil two below
its centre (R59 to R62). The strength of an observation is the smaller of its two peaks (R5). That the formula
holds where it gives -128, as for 4094, 4095, 0, against R61's remark, is the model's choice, log entry 27. -/
def Obligations.PeakAndOffset : Prop :=
  (∀ xs ys : List Nat, strength xs ys = min (peakAmp xs) (peakAmp ys))
  ∧ (∀ (c : Settings) (cx cy : Int) (xs ys : List Nat) (phase : Nat),
      trackRaw c ⟨cx, cy, xs, ys, phase⟩ = ⟨rawPosition (cx - 2) xs c.xSpan, rawPosition (cy - 2) ys c.ySpan⟩
      ∧ tiltRaw c ⟨cx, cy, xs, ys⟩ = ⟨rawPosition (cx - 2) xs c.xSpan, rawPosition (cy - 2) ys c.ySpan⟩)
  ∧ ∀ amps : List Nat, 3 ≤ amps.length →
    let m := peakIndex amps
    peakAmp amps = amps.getD m 0 ∧ (edgePeak amps = true ↔ m = 0 ∨ m + 1 = amps.length) ∧
    m < amps.length ∧ (∀ i, i < amps.length → amps.getD i 0 ≤ amps.getD m 0) ∧ (∀ i, i < m → amps.getD i 0 < amps.getD m 0)
    ∧ (m = 0 ∨ m + 1 = amps.length → peakOffset amps = 0)
    ∧ (0 < m → m + 1 < amps.length → ∀ l c r : Int, l = amps.getD (m - 1) 0 → c = amps.getD m 0 → r = amps.getD (m + 1) 0 →
        l < c ∧ 0 < 2 * c - l - r ∧ -128 ≤ peakOffset amps ∧ peakOffset amps ≤ 128
        ∧ -(2 * c - l - r) ≤ 2 * (128 * (r - l) - peakOffset amps * (2 * c - l - r))
        ∧ 2 * (128 * (r - l) - peakOffset amps * (2 * c - l - r)) ≤ 2 * c - l - r
        ∧ (2 * (128 * (r - l) - peakOffset amps * (2 * c - l - r)) = 2 * c - l - r → r < l)
        ∧ (2 * (128 * (r - l) - peakOffset amps * (2 * c - l - r)) = -(2 * c - l - r) → l < r)
        ∧ (r = c → peakOffset amps = 128))
    ∧ ∀ first span : Int, 0 ≤ span →
        rawPosition first amps span = max 0 (min ((first + m) * 256 + peakOffset amps) span)

/-- The cell of the correction map and the bilinear blend of its four nodes (R66, R67). -/
def Obligations.CorrectionMapBlend : Prop :=
  ∀ (c : Settings) (raw : Pt), GridOk c → (∀ j : Fin 7, RowOk c.map[j]) → 0 ≤ raw.x → raw.x ≤ c.xSpan → 0 ≤ raw.y →
    raw.y ≤ c.ySpan →
    ∃ i j : Nat, i ≤ 7 ∧ j ≤ 5
      ∧ (i : Int) = min (floorDiv (raw.x * 8) c.xSpan) 7 ∧ (j : Int) = min (floorDiv (raw.y * 6) c.ySpan) 5
      ∧ ∀ r s : Int, r = raw.x * 8 - i * c.xSpan → s = raw.y * 6 - j * c.ySpan →
          0 ≤ r ∧ r ≤ c.xSpan ∧ 0 ≤ s ∧ s ≤ c.ySpan
          ∧ (raw.x = c.xSpan → i = 7 ∧ r = c.xSpan) ∧ (raw.y = c.ySpan → j = 5 ∧ s = c.ySpan)
          ∧ (∀ m : Nat, m < 8 → raw.x * 8 = m * c.xSpan → i = m ∧ r = 0)
          ∧ (∀ m : Nat, m < 6 → raw.y * 6 = m * c.ySpan → j = m ∧ s = 0)
          ∧ ∀ (D : Pt → Int) (sum d : Int), (D = Pt.x ∧ d = (mapOffset c raw).x) ∨ (D = Pt.y ∧ d = (mapOffset c raw).y) →
              sum = D (mapNode c.map i j) * (c.xSpan - r) * (c.ySpan - s) + D (mapNode c.map (i + 1) j) * r * (c.ySpan - s)
                + D (mapNode c.map i (j + 1)) * (c.xSpan - r) * s + D (mapNode c.map (i + 1) (j + 1)) * r * s →
              d = roundDiv sum (c.xSpan * c.ySpan)
              ∧ -(c.xSpan * c.ySpan) ≤ 2 * (sum - d * (c.xSpan * c.ySpan))
              ∧ 2 * (sum - d * (c.xSpan * c.ySpan)) ≤ c.xSpan * c.ySpan
              ∧ (2 * (sum - d * (c.xSpan * c.ySpan)) = c.xSpan * c.ySpan → sum < 0)
              ∧ (2 * (sum - d * (c.xSpan * c.ySpan)) = -(c.xSpan * c.ySpan) → 0 < sum)
              ∧ (∀ q : Int, sum = q * (c.xSpan * c.ySpan) → d = q)
              ∧ (c.xSpan - r) * (c.ySpan - s) + r * (c.ySpan - s) + (c.xSpan - r) * s + r * s = c.xSpan * c.ySpan
              ∧ (∀ lo hi : Int,
                  (∀ a b, (a = i ∨ a = i + 1) → (b = j ∨ b = j + 1) → lo ≤ D (mapNode c.map a b) ∧ D (mapNode c.map a b) ≤ hi) →
                  lo ≤ d ∧ d ≤ hi)
              ∧ -512 ≤ d ∧ d ≤ 511

/-- The pressure curve: the four segments, each knot met exactly, never falling, within 0..8191, and n itself with the
default knots (R81). -/
def Obligations.PressureCurve : Prop :=
  ∀ (k : Pressure) (n : Nat), pressureValid k = true → n ≤ 8191 →
    (n < k.x1 → curve k n = n * k.y1 / k.x1 ∧ curve k n ≤ k.y1)
    ∧ (k.x1 ≤ n → n < k.x2 → curve k n = k.y1 + (n - k.x1) * (k.y2 - k.y1) / (k.x2 - k.x1)
        ∧ k.y1 ≤ curve k n ∧ curve k n ≤ k.y2)
    ∧ (k.x2 ≤ n → n < k.x3 → curve k n = k.y2 + (n - k.x2) * (k.y3 - k.y2) / (k.x3 - k.x2)
        ∧ k.y2 ≤ curve k n ∧ curve k n ≤ k.y3)
    ∧ (k.x3 ≤ n → curve k n = k.y3 + (n - k.x3) * (8191 - k.y3) / (8191 - k.x3)
        ∧ k.y3 ≤ curve k n ∧ curve k n ≤ 8191)
    ∧ curve k 0 = 0 ∧ curve k k.x1 = k.y1 ∧ curve k k.x2 = k.y2 ∧ curve k k.x3 = k.y3 ∧ curve k 8191 = 8191
    ∧ (∀ m, m ≤ n → curve k m ≤ curve k n)
    ∧ (∀ d u, curve { down := d, up := u, x1 := 2048, y1 := 2048, x2 := 4096, y2 := 4096, x3 := 6144, y3 := 6144 } n = n)

/-- The signed offset and the normalised tip value: pr is the phase difference modulo 1024 in −512..511, n is the rounded
share of the span, 0 at rest and below, 8191 from the span on (R75, R76). -/
def Obligations.OffsetAndNormalisation : Prop :=
  (∀ p z : Nat, p ≤ 1023 → z ≤ 1023 →
    -512 ≤ signedOffset p z ∧ signedOffset p z ≤ 511 ∧ ∃ m : Int, (p : Int) - z = signedOffset p z + 1024 * m)
  ∧ ∀ (pr : Int) (span : Nat), 64 ≤ span → span ≤ 1023 →
      (pr ≤ 0 → normalised pr span = 0)
      ∧ (0 ≤ pr → pr ≤ span → (normalised pr span : Int) = (pr * 8191 + (span : Int) / 2) / span)
      ∧ (span ≤ pr → normalised pr span = 8191)
      ∧ normalised pr span ≤ 8191
      ∧ (∀ pr', pr ≤ pr' → normalised pr span ≤ normalised pr' span)
      ∧ (511 < span → pr ≤ 511 → normalised pr span < 8191)

/-- The angle of a lean: T[k] and T[k + 1] bound it, it rises with the displacement, takes its sign, is odd in it, and
reaches 900 exactly from a full lean on; q is the truncated quotient of R84, capped at 256 (R84, R85). -/
def Obligations.LeanAngle : Prop :=
  ∀ (d : Int) (h : Nat), 256 ≤ h → h ≤ 4096 →
    let q := (leanSine d h).natAbs
    let a := leanAngle d h
    q ≤ 256 ∧ (h ≤ d.natAbs → q = 256) ∧ (d.natAbs < h → q * h ≤ 256 * d.natAbs ∧ 256 * d.natAbs < (q + 1) * h ∧ q < 256)
    ∧ (q < 256 → ∀ lo hi, arcsine[q / 8]? = some lo → arcsine[q / 8 + 1]? = some hi →
        (a.natAbs : Int) = lo + (hi - lo) * (q % 8 : Nat) / 8 ∧ lo ≤ a.natAbs ∧ (a.natAbs : Int) ≤ hi)
    ∧ (q = 256 → a.natAbs = 900)
    ∧ (q = 0 → a = 0) ∧ (0 ≤ d → 0 ≤ a) ∧ (d ≤ 0 → a ≤ 0) ∧ leanAngle (-d) h = -a
    ∧ ∀ d', d ≤ d' → a ≤ leanAngle d' h

/-- What a view reports: in GRID the position brought within the grid, in DISPLAY a pixel of the panel by the table of
R117, with OutOfArea as R119 says, and the tilt turned with the orientation (R116 to R119). -/
def Obligations.ViewMapsPositions : Prop :=
  ∀ (c : Settings) (v : View) (p : Pt), GridOk c → ViewOk c v →
    let m := v.mapPos c p
    let x := max v.x0 (min p.x v.x1)
    let y := max v.y0 (min p.y v.y1)
    let a := x - v.x0
    let b := y - v.y0
    let ea := v.x1 - v.x0 + 1
    let eb := v.y1 - v.y0 + 1
    (v.kind = .grid →
      m.x = max 0 (min p.x c.xSpan) ∧ m.y = max 0 (min p.y c.ySpan)
      ∧ (m.out = true ↔ ¬ (v.x0 ≤ p.x ∧ p.x ≤ v.x1 ∧ v.y0 ≤ p.y ∧ p.y ≤ v.y1))
      ∧ ∀ t, v.mapTilt t = t)
    ∧ (v.kind = .display →
      0 ≤ m.x ∧ m.x < v.width ∧ 0 ≤ m.y ∧ m.y < v.height
      ∧ (m.out = true ↔ ¬ (v.x0 ≤ p.x ∧ p.x ≤ v.x1 ∧ v.y0 ≤ p.y ∧ p.y ≤ v.y1))
      ∧ (v.orientation = .deg0 → m.x = a * v.width / ea ∧ m.y = b * v.height / eb ∧ ∀ t, v.mapTilt t = t)
      ∧ (v.orientation = .deg90 → m.x = (eb - 1 - b) * v.width / eb ∧ m.y = a * v.height / ea
          ∧ ∀ t, v.mapTilt t = ⟨-t.y, t.x⟩)
      ∧ (v.orientation = .deg180 → m.x = v.width - 1 - a * v.width / ea ∧ m.y = v.height - 1 - b * v.height / eb
          ∧ ∀ t, v.mapTilt t = ⟨-t.x, -t.y⟩)
      ∧ (v.orientation = .deg270 → m.x = b * v.width / eb ∧ m.y = (ea - 1 - a) * v.height / ea
          ∧ ∀ t, v.mapTilt t = ⟨t.y, -t.x⟩)
      ∧ (v.orientation = .deg0 → p = ⟨v.x1, v.y1⟩ → v.width ≤ ea → v.height ≤ eb →
          m.x = v.width - 1 ∧ m.y = v.height - 1))

/-- The predicted position: present in HOVER, CONTACT and FADE; in HOVER and CONTACT the reported one moved by
trunc(V × Lead / FramePeriod), clamped to −2048..+2048, and brought within the grid; the reported one with Lead 0 and in FADE
(R72, R73). -/
def Obligations.PredictedPosition : Prop :=
  ∀ (c : Settings) (lead : Nat) (t : Tool), GridOk c →
    (t.state = .vacant ∨ t.state = .acquire → predicted c lead t = none)
    ∧ (∀ rep, t.state = .fade → t.rep = some rep → predicted c lead t = some rep)
    ∧ ∀ rep, t.state = .hover ∨ t.state = .contact → t.rep = some rep →
        let delta (v : Int) : Int := max (-2048) (min ((v * lead).tdiv c.timing.framePeriod) 2048)
        ∃ q, predicted c lead t = some q
          ∧ q.x = max 0 (min (rep.x + delta t.vel.x) c.xSpan) ∧ q.y = max 0 (min (rep.y + delta t.vel.y) c.ySpan)
          ∧ (0 ≤ rep.x → rep.x ≤ c.xSpan → 0 ≤ rep.y → rep.y ≤ c.ySpan →
              (q.x - rep.x).natAbs ≤ 2048 ∧ (q.y - rep.y).natAbs ≤ 2048 ∧ (lead = 0 → q = rep))
end

