-- ==== Sys2Proof/Laws/State.lean ====
section
/-! SUPPORT. One lemma per field per update of the state, for the shared operations that write ports, tools, events, tasks, answers, timers and modes, so that no later proof unfolds a record update. -/

namespace Sys2Proof.Machine

variable (s : State) (p q : Port) (e : Event) (c : Bool) (ps : PortState) (pt : TickPoint) (k : TaskKind) (r : ResultCode)
  (code : Byte) (pl : List Byte) (i : ToolId) (t : Tool) (d : Nat) (mode : Mode) (o : Option Port)

/-! ## setPort -/

@[simp] theorem setPort_pending : (s.setPort p ps).pending = s.pending := by cases p <;> rfl
@[simp] theorem setPort_pins : (s.setPort p ps).pins = s.pins := by cases p <;> rfl
@[simp] theorem setPort_frame : (s.setPort p ps).frame = s.frame := by cases p <;> rfl
@[simp] theorem setPort_search : (s.setPort p ps).search = s.search := by cases p <;> rfl
@[simp] theorem setPort_tool0 : (s.setPort p ps).tool0 = s.tool0 := by cases p <;> rfl
@[simp] theorem setPort_tool1 : (s.setPort p ps).tool1 = s.tool1 := by cases p <;> rfl
@[simp] theorem setPort_ring : (s.setPort p ps).ring = s.ring := by cases p <;> rfl
@[simp] theorem setPort_nextSeq : (s.setPort p ps).nextSeq = s.nextSeq := by cases p <;> rfl
@[simp] theorem setPort_snap0 : (s.setPort p ps).snap0 = s.snap0 := by cases p <;> rfl
@[simp] theorem setPort_snap1 : (s.setPort p ps).snap1 = s.snap1 := by cases p <;> rfl
@[simp] theorem setPort_settings : (s.setPort p ps).settings = s.settings := by cases p <;> rfl
@[simp] theorem setPort_waiting : (s.setPort p ps).waiting = s.waiting := by cases p <;> rfl
@[simp] theorem setPort_epoch : (s.setPort p ps).epoch = s.epoch := by cases p <;> rfl
@[simp] theorem setPort_control : (s.setPort p ps).control = s.control := by cases p <;> rfl
@[simp] theorem setPort_keys : (s.setPort p ps).keys = s.keys := by cases p <;> rfl

/-! ## answer -/

@[simp] theorem answer_pending : (s.answer p code r pl).pending = s.pending := by cases p <;> rfl
@[simp] theorem answer_pins : (s.answer p code r pl).pins = s.pins := by cases p <;> rfl
@[simp] theorem answer_frame : (s.answer p code r pl).frame = s.frame := by cases p <;> rfl
@[simp] theorem answer_search : (s.answer p code r pl).search = s.search := by cases p <;> rfl
@[simp] theorem answer_tool0 : (s.answer p code r pl).tool0 = s.tool0 := by cases p <;> rfl
@[simp] theorem answer_tool1 : (s.answer p code r pl).tool1 = s.tool1 := by cases p <;> rfl
@[simp] theorem answer_ring : (s.answer p code r pl).ring = s.ring := by cases p <;> rfl
@[simp] theorem answer_nextSeq : (s.answer p code r pl).nextSeq = s.nextSeq := by cases p <;> rfl
@[simp] theorem answer_snap0 : (s.answer p code r pl).snap0 = s.snap0 := by cases p <;> rfl
@[simp] theorem answer_snap1 : (s.answer p code r pl).snap1 = s.snap1 := by cases p <;> rfl
@[simp] theorem answer_settings : (s.answer p code r pl).settings = s.settings := by cases p <;> rfl
@[simp] theorem answer_waiting : (s.answer p code r pl).waiting = s.waiting := by cases p <;> rfl
@[simp] theorem answer_epoch : (s.answer p code r pl).epoch = s.epoch := by cases p <;> rfl
@[simp] theorem answer_control : (s.answer p code r pl).control = s.control := by cases p <;> rfl
@[simp] theorem answer_keys : (s.answer p code r pl).keys = s.keys := by cases p <;> rfl

/-! ## startTask -/

@[simp] theorem startTask_pending : (s.startTask p k).pending = s.pending := by cases p <;> rfl
@[simp] theorem startTask_pins : (s.startTask p k).pins = s.pins := by cases p <;> rfl
@[simp] theorem startTask_frame : (s.startTask p k).frame = s.frame := by cases p <;> rfl
@[simp] theorem startTask_search : (s.startTask p k).search = s.search := by cases p <;> rfl
@[simp] theorem startTask_tool0 : (s.startTask p k).tool0 = s.tool0 := by cases p <;> rfl
@[simp] theorem startTask_tool1 : (s.startTask p k).tool1 = s.tool1 := by cases p <;> rfl
@[simp] theorem startTask_ring : (s.startTask p k).ring = s.ring := by cases p <;> rfl
@[simp] theorem startTask_nextSeq : (s.startTask p k).nextSeq = s.nextSeq := by cases p <;> rfl
@[simp] theorem startTask_snap0 : (s.startTask p k).snap0 = s.snap0 := by cases p <;> rfl
@[simp] theorem startTask_snap1 : (s.startTask p k).snap1 = s.snap1 := by cases p <;> rfl
@[simp] theorem startTask_settings : (s.startTask p k).settings = s.settings := by cases p <;> rfl
@[simp] theorem startTask_waiting : (s.startTask p k).waiting = s.waiting := by cases p <;> rfl
@[simp] theorem startTask_epoch : (s.startTask p k).epoch = s.epoch := by cases p <;> rfl
@[simp] theorem startTask_control : (s.startTask p k).control = s.control := by cases p <;> rfl
@[simp] theorem startTask_keys : (s.startTask p k).keys = s.keys := by cases p <;> rfl

/-! ## raise -/

@[simp] theorem raise_pending : (s.raise e p).pending = s.pending := by unfold State.raise; split <;> cases p <;> rfl
@[simp] theorem raise_pins : (s.raise e p).pins = s.pins := by unfold State.raise; split <;> cases p <;> rfl
@[simp] theorem raise_frame : (s.raise e p).frame = s.frame := by unfold State.raise; split <;> cases p <;> rfl
@[simp] theorem raise_search : (s.raise e p).search = s.search := by unfold State.raise; split <;> cases p <;> rfl
@[simp] theorem raise_tool0 : (s.raise e p).tool0 = s.tool0 := by unfold State.raise; split <;> cases p <;> rfl
@[simp] theorem raise_tool1 : (s.raise e p).tool1 = s.tool1 := by unfold State.raise; split <;> cases p <;> rfl
@[simp] theorem raise_ring : (s.raise e p).ring = s.ring := by unfold State.raise; split <;> cases p <;> rfl
@[simp] theorem raise_nextSeq : (s.raise e p).nextSeq = s.nextSeq := by unfold State.raise; split <;> cases p <;> rfl
@[simp] theorem raise_snap0 : (s.raise e p).snap0 = s.snap0 := by unfold State.raise; split <;> cases p <;> rfl
@[simp] theorem raise_snap1 : (s.raise e p).snap1 = s.snap1 := by unfold State.raise; split <;> cases p <;> rfl
@[simp] theorem raise_settings : (s.raise e p).settings = s.settings := by unfold State.raise; split <;> cases p <;> rfl
@[simp] theorem raise_waiting : (s.raise e p).waiting = s.waiting := by unfold State.raise; split <;> cases p <;> rfl
@[simp] theorem raise_epoch : (s.raise e p).epoch = s.epoch := by unfold State.raise; split <;> cases p <;> rfl
@[simp] theorem raise_control : (s.raise e p).control = s.control := by unfold State.raise; split <;> cases p <;> rfl
@[simp] theorem raise_keys : (s.raise e p).keys = s.keys := by unfold State.raise; split <;> cases p <;> rfl

/-! ## raiseBoth -/

@[simp] theorem raiseBoth_pending : (s.raiseBoth e).pending = s.pending := by simp [State.raiseBoth]
@[simp] theorem raiseBoth_pins : (s.raiseBoth e).pins = s.pins := by simp [State.raiseBoth]
@[simp] theorem raiseBoth_frame : (s.raiseBoth e).frame = s.frame := by simp [State.raiseBoth]
@[simp] theorem raiseBoth_search : (s.raiseBoth e).search = s.search := by simp [State.raiseBoth]
@[simp] theorem raiseBoth_tool0 : (s.raiseBoth e).tool0 = s.tool0 := by simp [State.raiseBoth]
@[simp] theorem raiseBoth_tool1 : (s.raiseBoth e).tool1 = s.tool1 := by simp [State.raiseBoth]
@[simp] theorem raiseBoth_ring : (s.raiseBoth e).ring = s.ring := by simp [State.raiseBoth]
@[simp] theorem raiseBoth_nextSeq : (s.raiseBoth e).nextSeq = s.nextSeq := by simp [State.raiseBoth]
@[simp] theorem raiseBoth_snap0 : (s.raiseBoth e).snap0 = s.snap0 := by simp [State.raiseBoth]
@[simp] theorem raiseBoth_snap1 : (s.raiseBoth e).snap1 = s.snap1 := by simp [State.raiseBoth]
@[simp] theorem raiseBoth_settings : (s.raiseBoth e).settings = s.settings := by simp [State.raiseBoth]
@[simp] theorem raiseBoth_waiting : (s.raiseBoth e).waiting = s.waiting := by simp [State.raiseBoth]
@[simp] theorem raiseBoth_epoch : (s.raiseBoth e).epoch = s.epoch := by simp [State.raiseBoth]
@[simp] theorem raiseBoth_control : (s.raiseBoth e).control = s.control := by simp [State.raiseBoth]
@[simp] theorem raiseBoth_keys : (s.raiseBoth e).keys = s.keys := by simp [State.raiseBoth]

/-! ## raiseIf -/

@[simp] theorem raiseIf_pending : (s.raiseIf c e p).pending = s.pending := by cases c <;> simp [State.raiseIf]
@[simp] theorem raiseIf_pins : (s.raiseIf c e p).pins = s.pins := by cases c <;> simp [State.raiseIf]
@[simp] theorem raiseIf_frame : (s.raiseIf c e p).frame = s.frame := by cases c <;> simp [State.raiseIf]
@[simp] theorem raiseIf_search : (s.raiseIf c e p).search = s.search := by cases c <;> simp [State.raiseIf]
@[simp] theorem raiseIf_tool0 : (s.raiseIf c e p).tool0 = s.tool0 := by cases c <;> simp [State.raiseIf]
@[simp] theorem raiseIf_tool1 : (s.raiseIf c e p).tool1 = s.tool1 := by cases c <;> simp [State.raiseIf]
@[simp] theorem raiseIf_ring : (s.raiseIf c e p).ring = s.ring := by cases c <;> simp [State.raiseIf]
@[simp] theorem raiseIf_nextSeq : (s.raiseIf c e p).nextSeq = s.nextSeq := by cases c <;> simp [State.raiseIf]
@[simp] theorem raiseIf_snap0 : (s.raiseIf c e p).snap0 = s.snap0 := by cases c <;> simp [State.raiseIf]
@[simp] theorem raiseIf_snap1 : (s.raiseIf c e p).snap1 = s.snap1 := by cases c <;> simp [State.raiseIf]
@[simp] theorem raiseIf_settings : (s.raiseIf c e p).settings = s.settings := by cases c <;> simp [State.raiseIf]
@[simp] theorem raiseIf_waiting : (s.raiseIf c e p).waiting = s.waiting := by cases c <;> simp [State.raiseIf]
@[simp] theorem raiseIf_epoch : (s.raiseIf c e p).epoch = s.epoch := by cases c <;> simp [State.raiseIf]
@[simp] theorem raiseIf_control : (s.raiseIf c e p).control = s.control := by cases c <;> simp [State.raiseIf]
@[simp] theorem raiseIf_keys : (s.raiseIf c e p).keys = s.keys := by cases c <;> simp [State.raiseIf]

/-! ## raiseBothIf -/

@[simp] theorem raiseBothIf_pending : (s.raiseBothIf c e).pending = s.pending := by cases c <;> simp [State.raiseBothIf]
@[simp] theorem raiseBothIf_pins : (s.raiseBothIf c e).pins = s.pins := by cases c <;> simp [State.raiseBothIf]
@[simp] theorem raiseBothIf_frame : (s.raiseBothIf c e).frame = s.frame := by cases c <;> simp [State.raiseBothIf]
@[simp] theorem raiseBothIf_search : (s.raiseBothIf c e).search = s.search := by cases c <;> simp [State.raiseBothIf]
@[simp] theorem raiseBothIf_tool0 : (s.raiseBothIf c e).tool0 = s.tool0 := by cases c <;> simp [State.raiseBothIf]
@[simp] theorem raiseBothIf_tool1 : (s.raiseBothIf c e).tool1 = s.tool1 := by cases c <;> simp [State.raiseBothIf]
@[simp] theorem raiseBothIf_ring : (s.raiseBothIf c e).ring = s.ring := by cases c <;> simp [State.raiseBothIf]
@[simp] theorem raiseBothIf_nextSeq : (s.raiseBothIf c e).nextSeq = s.nextSeq := by cases c <;> simp [State.raiseBothIf]
@[simp] theorem raiseBothIf_snap0 : (s.raiseBothIf c e).snap0 = s.snap0 := by cases c <;> simp [State.raiseBothIf]
@[simp] theorem raiseBothIf_snap1 : (s.raiseBothIf c e).snap1 = s.snap1 := by cases c <;> simp [State.raiseBothIf]
@[simp] theorem raiseBothIf_settings : (s.raiseBothIf c e).settings = s.settings := by cases c <;> simp [State.raiseBothIf]
@[simp] theorem raiseBothIf_waiting : (s.raiseBothIf c e).waiting = s.waiting := by cases c <;> simp [State.raiseBothIf]
@[simp] theorem raiseBothIf_epoch : (s.raiseBothIf c e).epoch = s.epoch := by cases c <;> simp [State.raiseBothIf]
@[simp] theorem raiseBothIf_control : (s.raiseBothIf c e).control = s.control := by cases c <;> simp [State.raiseBothIf]
@[simp] theorem raiseBothIf_keys : (s.raiseBothIf c e).keys = s.keys := by cases c <;> simp [State.raiseBothIf]

/-! ## tick -/

@[simp] theorem tick_pending : (s.tick pt p).pending = s.pending := by unfold State.tick; split <;> (try split) <;> simp
@[simp] theorem tick_pins : (s.tick pt p).pins = s.pins := by unfold State.tick; split <;> (try split) <;> simp
@[simp] theorem tick_frame : (s.tick pt p).frame = s.frame := by unfold State.tick; split <;> (try split) <;> simp
@[simp] theorem tick_search : (s.tick pt p).search = s.search := by unfold State.tick; split <;> (try split) <;> simp
@[simp] theorem tick_tool0 : (s.tick pt p).tool0 = s.tool0 := by unfold State.tick; split <;> (try split) <;> simp
@[simp] theorem tick_tool1 : (s.tick pt p).tool1 = s.tool1 := by unfold State.tick; split <;> (try split) <;> simp
@[simp] theorem tick_ring : (s.tick pt p).ring = s.ring := by unfold State.tick; split <;> (try split) <;> simp
@[simp] theorem tick_nextSeq : (s.tick pt p).nextSeq = s.nextSeq := by unfold State.tick; split <;> (try split) <;> simp
@[simp] theorem tick_snap0 : (s.tick pt p).snap0 = s.snap0 := by unfold State.tick; split <;> (try split) <;> simp
@[simp] theorem tick_snap1 : (s.tick pt p).snap1 = s.snap1 := by unfold State.tick; split <;> (try split) <;> simp
@[simp] theorem tick_settings : (s.tick pt p).settings = s.settings := by unfold State.tick; split <;> (try split) <;> simp
@[simp] theorem tick_waiting : (s.tick pt p).waiting = s.waiting := by unfold State.tick; split <;> (try split) <;> simp
@[simp] theorem tick_epoch : (s.tick pt p).epoch = s.epoch := by unfold State.tick; split <;> (try split) <;> simp
@[simp] theorem tick_control : (s.tick pt p).control = s.control := by unfold State.tick; split <;> (try split) <;> simp
@[simp] theorem tick_keys : (s.tick pt p).keys = s.keys := by unfold State.tick; split <;> (try split) <;> simp

/-! ## tickBoth -/

@[simp] theorem tickBoth_pending : (s.tickBoth pt).pending = s.pending := by simp [State.tickBoth]
@[simp] theorem tickBoth_pins : (s.tickBoth pt).pins = s.pins := by simp [State.tickBoth]
@[simp] theorem tickBoth_frame : (s.tickBoth pt).frame = s.frame := by simp [State.tickBoth]
@[simp] theorem tickBoth_search : (s.tickBoth pt).search = s.search := by simp [State.tickBoth]
@[simp] theorem tickBoth_tool0 : (s.tickBoth pt).tool0 = s.tool0 := by simp [State.tickBoth]
@[simp] theorem tickBoth_tool1 : (s.tickBoth pt).tool1 = s.tool1 := by simp [State.tickBoth]
@[simp] theorem tickBoth_ring : (s.tickBoth pt).ring = s.ring := by simp [State.tickBoth]
@[simp] theorem tickBoth_nextSeq : (s.tickBoth pt).nextSeq = s.nextSeq := by simp [State.tickBoth]
@[simp] theorem tickBoth_snap0 : (s.tickBoth pt).snap0 = s.snap0 := by simp [State.tickBoth]
@[simp] theorem tickBoth_snap1 : (s.tickBoth pt).snap1 = s.snap1 := by simp [State.tickBoth]
@[simp] theorem tickBoth_settings : (s.tickBoth pt).settings = s.settings := by simp [State.tickBoth]
@[simp] theorem tickBoth_waiting : (s.tickBoth pt).waiting = s.waiting := by simp [State.tickBoth]
@[simp] theorem tickBoth_epoch : (s.tickBoth pt).epoch = s.epoch := by simp [State.tickBoth]
@[simp] theorem tickBoth_control : (s.tickBoth pt).control = s.control := by simp [State.tickBoth]
@[simp] theorem tickBoth_keys : (s.tickBoth pt).keys = s.keys := by simp [State.tickBoth]

/-! ## completeTask -/

@[simp] theorem completeTask_pending : (s.completeTask p k r).pending = s.pending := by unfold State.completeTask; split <;> simp
@[simp] theorem completeTask_pins : (s.completeTask p k r).pins = s.pins := by unfold State.completeTask; split <;> simp
@[simp] theorem completeTask_frame : (s.completeTask p k r).frame = s.frame := by unfold State.completeTask; split <;> simp
@[simp] theorem completeTask_search : (s.completeTask p k r).search = s.search := by unfold State.completeTask; split <;> simp
@[simp] theorem completeTask_tool0 : (s.completeTask p k r).tool0 = s.tool0 := by unfold State.completeTask; split <;> simp
@[simp] theorem completeTask_tool1 : (s.completeTask p k r).tool1 = s.tool1 := by unfold State.completeTask; split <;> simp
@[simp] theorem completeTask_ring : (s.completeTask p k r).ring = s.ring := by unfold State.completeTask; split <;> simp
@[simp] theorem completeTask_nextSeq : (s.completeTask p k r).nextSeq = s.nextSeq := by unfold State.completeTask; split <;> simp
@[simp] theorem completeTask_snap0 : (s.completeTask p k r).snap0 = s.snap0 := by unfold State.completeTask; split <;> simp
@[simp] theorem completeTask_snap1 : (s.completeTask p k r).snap1 = s.snap1 := by unfold State.completeTask; split <;> simp
@[simp] theorem completeTask_settings : (s.completeTask p k r).settings = s.settings := by unfold State.completeTask; split <;> simp
@[simp] theorem completeTask_waiting : (s.completeTask p k r).waiting = s.waiting := by unfold State.completeTask; split <;> simp
@[simp] theorem completeTask_epoch : (s.completeTask p k r).epoch = s.epoch := by unfold State.completeTask; split <;> simp
@[simp] theorem completeTask_control : (s.completeTask p k r).control = s.control := by unfold State.completeTask; split <;> simp
@[simp] theorem completeTask_keys : (s.completeTask p k r).keys = s.keys := by unfold State.completeTask; split <;> simp

/-! ## Ports -/

/-- An update of a state that leaves both ports leaves each port. -/
@[simp] theorem port_update (a : List Instr) (b : Pins) (c : Frame) (d : SearchCursor) (e f : Tool) (g : List Sample)
    (h : BitVec 16) (i j : Snapshot) (k : Settings) (l : Waiting) (m : BitVec 16) (n : Control) (o : Keys) :
    (State.mk a b c d e f g h i j k l m n s.portS s.portD o).port q = s.port q := by cases q <;> rfl

theorem port_s : s.port .s = s.portS := rfl
theorem port_d : s.port .d = s.portD := rfl
@[simp] theorem port_mk_s (a : List Instr) (b : Pins) (c : Frame) (d : SearchCursor) (e f : Tool) (g : List Sample)
    (h : BitVec 16) (i j : Snapshot) (k : Settings) (l : Waiting) (m : BitVec 16) (n : Control) (x y : PortState) (o : Keys) :
    (State.mk a b c d e f g h i j k l m n x y o).port .s = x := rfl
@[simp] theorem port_mk_d (a : List Instr) (b : Pins) (c : Frame) (d : SearchCursor) (e f : Tool) (g : List Sample)
    (h : BitVec 16) (i j : Snapshot) (k : Settings) (l : Waiting) (m : BitVec 16) (n : Control) (x y : PortState) (o : Keys) :
    (State.mk a b c d e f g h i j k l m n x y o).port .d = y := rfl

@[simp] theorem port_setPort_self : (s.setPort p ps).port p = ps := by cases p <;> rfl
theorem port_setPort_ne (h : q ≠ p) : (s.setPort p ps).port q = s.port q := by cases p <;> cases q <;> first | rfl | exact absurd rfl h
@[simp] theorem port_setPort_other : (s.setPort p ps).port p.other = s.port p.other := by cases p <;> rfl
@[simp] theorem setPort_setPort (ps' : PortState) : (s.setPort p ps).setPort p ps' = s.setPort p ps' := by cases p <;> rfl
@[simp] theorem setPort_port : s.setPort p (s.port p) = s := by cases p <;> rfl
theorem port_setPort : (s.setPort p ps).port q = if q = p then ps else s.port q := by cases p <;> cases q <;> rfl
@[simp] theorem portS_setPort_s : (s.setPort .s ps).portS = ps := rfl
@[simp] theorem portS_setPort_d : (s.setPort .d ps).portS = s.portS := rfl
@[simp] theorem portD_setPort_d : (s.setPort .d ps).portD = ps := rfl
@[simp] theorem portD_setPort_s : (s.setPort .s ps).portD = s.portD := rfl

/-- Raising an event writes that event's bit at its port and nothing else, and nothing in STARTING (R130, R171). -/
theorem port_raise : (s.raise e p).port q
    = if s.control.mode ≠ .starting ∧ q = p then { s.port q with events := e.addTo (s.port q).events } else s.port q := by
  unfold State.raise
  by_cases h : s.control.mode = .starting <;> cases p <;> cases q <;> simp [h, State.setPort, State.port]

/-- The answer of a request replaces the answer its port holds and drives zeros there, and nothing else (R121, R123). -/
theorem port_answer : (s.answer p code r pl).port q
    = if q = p then { s.port q with store := .notReady { code, result := r, payload := pl }, sent := [] } else s.port q := by
  cases p <;> cases q <;> rfl

/-- A task that starts writes its port's slot and nothing else (R126). -/
theorem port_startTask : (s.startTask p k).port q = if q = p then { s.port q with slot := .running k } else s.port q := by
  cases p <;> cases q <;> rfl

@[simp] theorem raise_port_cursor : ((s.raise e p).port q).cursor = (s.port q).cursor := by rw [port_raise]; split <;> rfl
@[simp] theorem raise_port_watermark : ((s.raise e p).port q).watermark = (s.port q).watermark := by rw [port_raise]; split <;> rfl
@[simp] theorem raise_port_view : ((s.raise e p).port q).view = (s.port q).view := by rw [port_raise]; split <;> rfl
@[simp] theorem raise_port_mask : ((s.raise e p).port q).mask = (s.port q).mask := by rw [port_raise]; split <;> rfl
@[simp] theorem raise_port_tickPoint : ((s.raise e p).port q).tickPoint = (s.port q).tickPoint := by rw [port_raise]; split <;> rfl
@[simp] theorem raise_port_tickPending : ((s.raise e p).port q).tickPending = (s.port q).tickPending := by rw [port_raise]; split <;> rfl
@[simp] theorem raise_port_list0 : ((s.raise e p).port q).list0 = (s.port q).list0 := by rw [port_raise]; split <;> rfl
@[simp] theorem raise_port_list1 : ((s.raise e p).port q).list1 = (s.port q).list1 := by rw [port_raise]; split <;> rfl
@[simp] theorem raise_port_slot : ((s.raise e p).port q).slot = (s.port q).slot := by rw [port_raise]; split <;> rfl
@[simp] theorem raise_port_store : ((s.raise e p).port q).store = (s.port q).store := by rw [port_raise]; split <;> rfl
@[simp] theorem raise_port_sent : ((s.raise e p).port q).sent = (s.port q).sent := by rw [port_raise]; split <;> rfl
@[simp] theorem raiseBoth_port_cursor : ((s.raiseBoth e).port q).cursor = (s.port q).cursor := by simp [State.raiseBoth]
@[simp] theorem raiseBoth_port_watermark : ((s.raiseBoth e).port q).watermark = (s.port q).watermark := by simp [State.raiseBoth]
@[simp] theorem raiseBoth_port_view : ((s.raiseBoth e).port q).view = (s.port q).view := by simp [State.raiseBoth]
@[simp] theorem raiseBoth_port_mask : ((s.raiseBoth e).port q).mask = (s.port q).mask := by simp [State.raiseBoth]
@[simp] theorem raiseBoth_port_tickPoint : ((s.raiseBoth e).port q).tickPoint = (s.port q).tickPoint := by simp [State.raiseBoth]
@[simp] theorem raiseBoth_port_tickPending : ((s.raiseBoth e).port q).tickPending = (s.port q).tickPending := by simp [State.raiseBoth]
@[simp] theorem raiseBoth_port_list0 : ((s.raiseBoth e).port q).list0 = (s.port q).list0 := by simp [State.raiseBoth]
@[simp] theorem raiseBoth_port_list1 : ((s.raiseBoth e).port q).list1 = (s.port q).list1 := by simp [State.raiseBoth]
@[simp] theorem raiseBoth_port_slot : ((s.raiseBoth e).port q).slot = (s.port q).slot := by simp [State.raiseBoth]
@[simp] theorem raiseBoth_port_store : ((s.raiseBoth e).port q).store = (s.port q).store := by simp [State.raiseBoth]
@[simp] theorem raiseBoth_port_sent : ((s.raiseBoth e).port q).sent = (s.port q).sent := by simp [State.raiseBoth]
@[simp] theorem raiseIf_port_cursor : ((s.raiseIf c e p).port q).cursor = (s.port q).cursor := by cases c <;> simp [State.raiseIf]
@[simp] theorem raiseIf_port_watermark : ((s.raiseIf c e p).port q).watermark = (s.port q).watermark := by cases c <;> simp [State.raiseIf]
@[simp] theorem raiseIf_port_view : ((s.raiseIf c e p).port q).view = (s.port q).view := by cases c <;> simp [State.raiseIf]
@[simp] theorem raiseIf_port_mask : ((s.raiseIf c e p).port q).mask = (s.port q).mask := by cases c <;> simp [State.raiseIf]
@[simp] theorem raiseIf_port_tickPoint : ((s.raiseIf c e p).port q).tickPoint = (s.port q).tickPoint := by cases c <;> simp [State.raiseIf]
@[simp] theorem raiseIf_port_tickPending : ((s.raiseIf c e p).port q).tickPending = (s.port q).tickPending := by cases c <;> simp [State.raiseIf]
@[simp] theorem raiseIf_port_list0 : ((s.raiseIf c e p).port q).list0 = (s.port q).list0 := by cases c <;> simp [State.raiseIf]
@[simp] theorem raiseIf_port_list1 : ((s.raiseIf c e p).port q).list1 = (s.port q).list1 := by cases c <;> simp [State.raiseIf]
@[simp] theorem raiseIf_port_slot : ((s.raiseIf c e p).port q).slot = (s.port q).slot := by cases c <;> simp [State.raiseIf]
@[simp] theorem raiseIf_port_store : ((s.raiseIf c e p).port q).store = (s.port q).store := by cases c <;> simp [State.raiseIf]
@[simp] theorem raiseIf_port_sent : ((s.raiseIf c e p).port q).sent = (s.port q).sent := by cases c <;> simp [State.raiseIf]
@[simp] theorem raiseBothIf_port_cursor : ((s.raiseBothIf c e).port q).cursor = (s.port q).cursor := by cases c <;> simp [State.raiseBothIf]
@[simp] theorem raiseBothIf_port_watermark : ((s.raiseBothIf c e).port q).watermark = (s.port q).watermark := by cases c <;> simp [State.raiseBothIf]
@[simp] theorem raiseBothIf_port_view : ((s.raiseBothIf c e).port q).view = (s.port q).view := by cases c <;> simp [State.raiseBothIf]
@[simp] theorem raiseBothIf_port_mask : ((s.raiseBothIf c e).port q).mask = (s.port q).mask := by cases c <;> simp [State.raiseBothIf]
@[simp] theorem raiseBothIf_port_tickPoint : ((s.raiseBothIf c e).port q).tickPoint = (s.port q).tickPoint := by cases c <;> simp [State.raiseBothIf]
@[simp] theorem raiseBothIf_port_tickPending : ((s.raiseBothIf c e).port q).tickPending = (s.port q).tickPending := by cases c <;> simp [State.raiseBothIf]
@[simp] theorem raiseBothIf_port_list0 : ((s.raiseBothIf c e).port q).list0 = (s.port q).list0 := by cases c <;> simp [State.raiseBothIf]
@[simp] theorem raiseBothIf_port_list1 : ((s.raiseBothIf c e).port q).list1 = (s.port q).list1 := by cases c <;> simp [State.raiseBothIf]
@[simp] theorem raiseBothIf_port_slot : ((s.raiseBothIf c e).port q).slot = (s.port q).slot := by cases c <;> simp [State.raiseBothIf]
@[simp] theorem raiseBothIf_port_store : ((s.raiseBothIf c e).port q).store = (s.port q).store := by cases c <;> simp [State.raiseBothIf]
@[simp] theorem raiseBothIf_port_sent : ((s.raiseBothIf c e).port q).sent = (s.port q).sent := by cases c <;> simp [State.raiseBothIf]

/-- At a tick point a port sets TickPending, or finds it set and raises TickMissed (R133). -/
theorem port_tick : (s.tick pt p).port q
    = if q = p ∧ (s.port p).tickPoint = pt then
        if (s.port p).tickPending then (s.raise .tickMissed p).port q else { s.port q with tickPending := true }
      else s.port q := by
  unfold State.tick
  by_cases h : (s.port p).tickPoint = pt <;> by_cases h2 : (s.port p).tickPending = true <;> by_cases h3 : q = p
    <;> simp [h, h2, h3, port_raise, port_setPort]

@[simp] theorem tick_port_cursor : ((s.tick pt p).port q).cursor = (s.port q).cursor := by rw [port_tick]; split <;> (try split) <;> simp
@[simp] theorem tick_port_watermark : ((s.tick pt p).port q).watermark = (s.port q).watermark := by rw [port_tick]; split <;> (try split) <;> simp
@[simp] theorem tick_port_view : ((s.tick pt p).port q).view = (s.port q).view := by rw [port_tick]; split <;> (try split) <;> simp
@[simp] theorem tick_port_mask : ((s.tick pt p).port q).mask = (s.port q).mask := by rw [port_tick]; split <;> (try split) <;> simp
@[simp] theorem tick_port_tickPoint : ((s.tick pt p).port q).tickPoint = (s.port q).tickPoint := by rw [port_tick]; split <;> (try split) <;> simp
@[simp] theorem tick_port_list0 : ((s.tick pt p).port q).list0 = (s.port q).list0 := by rw [port_tick]; split <;> (try split) <;> simp
@[simp] theorem tick_port_list1 : ((s.tick pt p).port q).list1 = (s.port q).list1 := by rw [port_tick]; split <;> (try split) <;> simp
@[simp] theorem tick_port_slot : ((s.tick pt p).port q).slot = (s.port q).slot := by rw [port_tick]; split <;> (try split) <;> simp
@[simp] theorem tick_port_store : ((s.tick pt p).port q).store = (s.port q).store := by rw [port_tick]; split <;> (try split) <;> simp
@[simp] theorem tick_port_sent : ((s.tick pt p).port q).sent = (s.port q).sent := by rw [port_tick]; split <;> (try split) <;> simp
@[simp] theorem tickBoth_port_cursor : ((s.tickBoth pt).port q).cursor = (s.port q).cursor := by simp [State.tickBoth]
@[simp] theorem tickBoth_port_watermark : ((s.tickBoth pt).port q).watermark = (s.port q).watermark := by simp [State.tickBoth]
@[simp] theorem tickBoth_port_view : ((s.tickBoth pt).port q).view = (s.port q).view := by simp [State.tickBoth]
@[simp] theorem tickBoth_port_mask : ((s.tickBoth pt).port q).mask = (s.port q).mask := by simp [State.tickBoth]
@[simp] theorem tickBoth_port_tickPoint : ((s.tickBoth pt).port q).tickPoint = (s.port q).tickPoint := by simp [State.tickBoth]
@[simp] theorem tickBoth_port_list0 : ((s.tickBoth pt).port q).list0 = (s.port q).list0 := by simp [State.tickBoth]
@[simp] theorem tickBoth_port_list1 : ((s.tickBoth pt).port q).list1 = (s.port q).list1 := by simp [State.tickBoth]
@[simp] theorem tickBoth_port_slot : ((s.tickBoth pt).port q).slot = (s.port q).slot := by simp [State.tickBoth]
@[simp] theorem tickBoth_port_store : ((s.tickBoth pt).port q).store = (s.port q).store := by simp [State.tickBoth]
@[simp] theorem tickBoth_port_sent : ((s.tickBoth pt).port q).sent = (s.port q).sent := by simp [State.tickBoth]

/-- A task that completes leaves its result in the slot of its port and raises TaskDone there; with no such task nothing
happens (R127). -/
theorem port_completeTask : (s.completeTask p k r).port q
    = if q = p ∧ (s.port p).slot = .running k then
        { s.port q with
          slot := .completed k r
          events := if s.control.mode = .starting then (s.port q).events else Event.taskDone.addTo (s.port q).events }
      else s.port q := by
  unfold State.completeTask
  by_cases h : (s.port p).slot = .running k <;> by_cases h3 : q = p <;> by_cases h4 : s.control.mode = .starting
    <;> simp [h, h3, h4, port_raise, port_setPort]

@[simp] theorem completeTask_port_cursor : ((s.completeTask p k r).port q).cursor = (s.port q).cursor := by rw [port_completeTask]; split <;> rfl
@[simp] theorem completeTask_port_watermark : ((s.completeTask p k r).port q).watermark = (s.port q).watermark := by rw [port_completeTask]; split <;> rfl
@[simp] theorem completeTask_port_view : ((s.completeTask p k r).port q).view = (s.port q).view := by rw [port_completeTask]; split <;> rfl
@[simp] theorem completeTask_port_mask : ((s.completeTask p k r).port q).mask = (s.port q).mask := by rw [port_completeTask]; split <;> rfl
@[simp] theorem completeTask_port_tickPoint : ((s.completeTask p k r).port q).tickPoint = (s.port q).tickPoint := by rw [port_completeTask]; split <;> rfl
@[simp] theorem completeTask_port_tickPending : ((s.completeTask p k r).port q).tickPending = (s.port q).tickPending := by rw [port_completeTask]; split <;> rfl
@[simp] theorem completeTask_port_list0 : ((s.completeTask p k r).port q).list0 = (s.port q).list0 := by rw [port_completeTask]; split <;> rfl
@[simp] theorem completeTask_port_list1 : ((s.completeTask p k r).port q).list1 = (s.port q).list1 := by rw [port_completeTask]; split <;> rfl
@[simp] theorem completeTask_port_store : ((s.completeTask p k r).port q).store = (s.port q).store := by rw [port_completeTask]; split <;> rfl
@[simp] theorem completeTask_port_sent : ((s.completeTask p k r).port q).sent = (s.port q).sent := by rw [port_completeTask]; split <;> rfl
@[simp] theorem answer_port_cursor : ((s.answer p code r pl).port q).cursor = (s.port q).cursor := by rw [port_answer]; split <;> rfl
@[simp] theorem answer_port_watermark : ((s.answer p code r pl).port q).watermark = (s.port q).watermark := by rw [port_answer]; split <;> rfl
@[simp] theorem answer_port_view : ((s.answer p code r pl).port q).view = (s.port q).view := by rw [port_answer]; split <;> rfl
@[simp] theorem answer_port_events : ((s.answer p code r pl).port q).events = (s.port q).events := by rw [port_answer]; split <;> rfl
@[simp] theorem answer_port_mask : ((s.answer p code r pl).port q).mask = (s.port q).mask := by rw [port_answer]; split <;> rfl
@[simp] theorem answer_port_tickPoint : ((s.answer p code r pl).port q).tickPoint = (s.port q).tickPoint := by rw [port_answer]; split <;> rfl
@[simp] theorem answer_port_tickPending : ((s.answer p code r pl).port q).tickPending = (s.port q).tickPending := by rw [port_answer]; split <;> rfl
@[simp] theorem answer_port_list0 : ((s.answer p code r pl).port q).list0 = (s.port q).list0 := by rw [port_answer]; split <;> rfl
@[simp] theorem answer_port_list1 : ((s.answer p code r pl).port q).list1 = (s.port q).list1 := by rw [port_answer]; split <;> rfl
@[simp] theorem answer_port_slot : ((s.answer p code r pl).port q).slot = (s.port q).slot := by rw [port_answer]; split <;> rfl
@[simp] theorem startTask_port_cursor : ((s.startTask p k).port q).cursor = (s.port q).cursor := by rw [port_startTask]; split <;> rfl
@[simp] theorem startTask_port_watermark : ((s.startTask p k).port q).watermark = (s.port q).watermark := by rw [port_startTask]; split <;> rfl
@[simp] theorem startTask_port_view : ((s.startTask p k).port q).view = (s.port q).view := by rw [port_startTask]; split <;> rfl
@[simp] theorem startTask_port_events : ((s.startTask p k).port q).events = (s.port q).events := by rw [port_startTask]; split <;> rfl
@[simp] theorem startTask_port_mask : ((s.startTask p k).port q).mask = (s.port q).mask := by rw [port_startTask]; split <;> rfl
@[simp] theorem startTask_port_tickPoint : ((s.startTask p k).port q).tickPoint = (s.port q).tickPoint := by rw [port_startTask]; split <;> rfl
@[simp] theorem startTask_port_tickPending : ((s.startTask p k).port q).tickPending = (s.port q).tickPending := by rw [port_startTask]; split <;> rfl
@[simp] theorem startTask_port_list0 : ((s.startTask p k).port q).list0 = (s.port q).list0 := by rw [port_startTask]; split <;> rfl
@[simp] theorem startTask_port_list1 : ((s.startTask p k).port q).list1 = (s.port q).list1 := by rw [port_startTask]; split <;> rfl
@[simp] theorem startTask_port_store : ((s.startTask p k).port q).store = (s.port q).store := by rw [port_startTask]; split <;> rfl
@[simp] theorem startTask_port_sent : ((s.startTask p k).port q).sent = (s.port q).sent := by rw [port_startTask]; split <;> rfl

/-! ## Tools -/

@[simp] theorem setTool_pending : (s.setTool i t).pending = s.pending := by cases i <;> rfl
@[simp] theorem setTool_pins : (s.setTool i t).pins = s.pins := by cases i <;> rfl
@[simp] theorem setTool_frame : (s.setTool i t).frame = s.frame := by cases i <;> rfl
@[simp] theorem setTool_search : (s.setTool i t).search = s.search := by cases i <;> rfl
@[simp] theorem setTool_ring : (s.setTool i t).ring = s.ring := by cases i <;> rfl
@[simp] theorem setTool_nextSeq : (s.setTool i t).nextSeq = s.nextSeq := by cases i <;> rfl
@[simp] theorem setTool_snap0 : (s.setTool i t).snap0 = s.snap0 := by cases i <;> rfl
@[simp] theorem setTool_snap1 : (s.setTool i t).snap1 = s.snap1 := by cases i <;> rfl
@[simp] theorem setTool_settings : (s.setTool i t).settings = s.settings := by cases i <;> rfl
@[simp] theorem setTool_waiting : (s.setTool i t).waiting = s.waiting := by cases i <;> rfl
@[simp] theorem setTool_epoch : (s.setTool i t).epoch = s.epoch := by cases i <;> rfl
@[simp] theorem setTool_control : (s.setTool i t).control = s.control := by cases i <;> rfl
@[simp] theorem setTool_portS : (s.setTool i t).portS = s.portS := by cases i <;> rfl
@[simp] theorem setTool_portD : (s.setTool i t).portD = s.portD := by cases i <;> rfl
@[simp] theorem setTool_keys : (s.setTool i t).keys = s.keys := by cases i <;> rfl
@[simp] theorem setTool_port : (s.setTool i t).port q = s.port q := by cases i <;> cases q <;> rfl
@[simp] theorem setTool_tool : (s.setTool i t).tool i = t := by cases i <;> rfl

/-! ## Time -/

@[simp] theorem elapse_pending : (s.elapse d).pending = s.pending := rfl
@[simp] theorem elapse_search : (s.elapse d).search = s.search := rfl
@[simp] theorem elapse_tool0 : (s.elapse d).tool0 = s.tool0 := rfl
@[simp] theorem elapse_tool1 : (s.elapse d).tool1 = s.tool1 := rfl
@[simp] theorem elapse_ring : (s.elapse d).ring = s.ring := rfl
@[simp] theorem elapse_nextSeq : (s.elapse d).nextSeq = s.nextSeq := rfl
@[simp] theorem elapse_snap0 : (s.elapse d).snap0 = s.snap0 := rfl
@[simp] theorem elapse_snap1 : (s.elapse d).snap1 = s.snap1 := rfl
@[simp] theorem elapse_settings : (s.elapse d).settings = s.settings := rfl
@[simp] theorem elapse_waiting : (s.elapse d).waiting = s.waiting := rfl
@[simp] theorem elapse_epoch : (s.elapse d).epoch = s.epoch := rfl
@[simp] theorem elapse_portS : (s.elapse d).portS = s.portS := rfl
@[simp] theorem elapse_portD : (s.elapse d).portD = s.portD := rfl
@[simp] theorem elapse_port : (s.elapse d).port q = s.port q := by cases q <;> rfl
@[simp] theorem elapse_frame_phase : (s.elapse d).frame.phase = s.frame.phase := rfl
@[simp] theorem elapse_frame_midDone : (s.elapse d).frame.midDone = s.frame.midDone := rfl
@[simp] theorem elapse_frame_count : (s.elapse d).frame.count = s.frame.count := rfl
@[simp] theorem elapse_frame_activePlan : (s.elapse d).frame.activePlan = s.frame.activePlan := rfl
@[simp] theorem elapse_frame_pendingPlan : (s.elapse d).frame.pendingPlan = s.frame.pendingPlan := rfl
@[simp] theorem elapse_frame_outcomes : (s.elapse d).frame.outcomes = s.frame.outcomes := rfl
@[simp] theorem elapse_frame_next : (s.elapse d).frame.next = s.frame.next := rfl
@[simp] theorem elapse_frame_run : (s.elapse d).frame.run = s.frame.run := rfl
@[simp] theorem elapse_frame_window : (s.elapse d).frame.window = s.frame.window := rfl
@[simp] theorem elapse_frame_obs0 : (s.elapse d).frame.obs0 = s.frame.obs0 := rfl
@[simp] theorem elapse_frame_obs1 : (s.elapse d).frame.obs1 = s.frame.obs1 := rfl
@[simp] theorem elapse_frame_lastOutcomes : (s.elapse d).frame.lastOutcomes = s.frame.lastOutcomes := rfl
@[simp] theorem elapse_frame_lastFrame : (s.elapse d).frame.lastFrame = s.frame.lastFrame := rfl
@[simp] theorem elapse_frame_sync : (s.elapse d).frame.sync = s.frame.sync := rfl
@[simp] theorem elapse_frame_noiseAxis : (s.elapse d).frame.noiseAxis = s.frame.noiseAxis := rfl
@[simp] theorem elapse_frame_noiseBand : (s.elapse d).frame.noiseBand = s.frame.noiseBand := rfl
@[simp] theorem elapse_frame_noiseFloor : (s.elapse d).frame.noiseFloor = s.frame.noiseFloor := rfl
@[simp] theorem elapse_control_mode : (s.elapse d).control.mode = s.control.mode := rfl
@[simp] theorem elapse_control_owner : (s.elapse d).control.owner = s.control.owner := rfl
@[simp] theorem elapse_control_reservation : (s.elapse d).control.reservation = s.control.reservation := rfl
@[simp] theorem elapse_control_survey : (s.elapse d).control.survey = s.control.survey := rfl
@[simp] theorem elapse_control_resumeDelay : (s.elapse d).control.resumeDelay = s.control.resumeDelay := rfl
@[simp] theorem elapse_control_capture : (s.elapse d).control.capture = s.control.capture := rfl
@[simp] theorem elapse_pins_power : (s.elapse d).pins.power = s.pins.power := rfl
@[simp] theorem elapse_pins_resetN : (s.elapse d).pins.resetN = s.pins.resetN := rfl
@[simp] theorem elapse_pins_driveBusy : (s.elapse d).pins.driveBusy = s.pins.driveBusy := rfl
@[simp] theorem elapse_keys_key0 : (s.elapse d).keys.key0 = s.keys.key0 := by simp only [State.elapse]; split <;> rfl
@[simp] theorem elapse_keys_key1 : (s.elapse d).keys.key1 = s.keys.key1 := by simp only [State.elapse]; split <;> rfl
@[simp] theorem elapse_keys_key2 : (s.elapse d).keys.key2 = s.keys.key2 := by simp only [State.elapse]; split <;> rfl
@[simp] theorem elapse_keys_key3 : (s.elapse d).keys.key3 = s.keys.key3 := by simp only [State.elapse]; split <;> rfl
/-! ## Modes -/

@[simp] theorem changeMode_pending : (s.changeMode mode o).pending = s.pending := by simp [State.changeMode]
@[simp] theorem changeMode_pins : (s.changeMode mode o).pins = s.pins := by simp [State.changeMode]
@[simp] theorem changeMode_frame : (s.changeMode mode o).frame = s.frame := by simp [State.changeMode]
@[simp] theorem changeMode_search : (s.changeMode mode o).search = s.search := by simp [State.changeMode]
@[simp] theorem changeMode_tool0 : (s.changeMode mode o).tool0 = s.tool0 := by simp [State.changeMode]
@[simp] theorem changeMode_tool1 : (s.changeMode mode o).tool1 = s.tool1 := by simp [State.changeMode]
@[simp] theorem changeMode_ring : (s.changeMode mode o).ring = s.ring := by simp [State.changeMode]
@[simp] theorem changeMode_nextSeq : (s.changeMode mode o).nextSeq = s.nextSeq := by simp [State.changeMode]
@[simp] theorem changeMode_snap0 : (s.changeMode mode o).snap0 = s.snap0 := by simp [State.changeMode]
@[simp] theorem changeMode_snap1 : (s.changeMode mode o).snap1 = s.snap1 := by simp [State.changeMode]
@[simp] theorem changeMode_settings : (s.changeMode mode o).settings = s.settings := by simp [State.changeMode]
@[simp] theorem changeMode_waiting : (s.changeMode mode o).waiting = s.waiting := by simp [State.changeMode]
@[simp] theorem changeMode_epoch : (s.changeMode mode o).epoch = s.epoch := by simp [State.changeMode]
@[simp] theorem changeMode_keys : (s.changeMode mode o).keys = s.keys := by simp [State.changeMode]
@[simp] theorem changeMode_control : (s.changeMode mode o).control = { s.control with mode := mode, owner := o } := by simp [State.changeMode]
@[simp] theorem changeMode_port_cursor : ((s.changeMode mode o).port q).cursor = (s.port q).cursor := by simp only [State.changeMode, raiseBoth_port_cursor]; cases q <;> rfl
@[simp] theorem changeMode_port_watermark : ((s.changeMode mode o).port q).watermark = (s.port q).watermark := by simp only [State.changeMode, raiseBoth_port_watermark]; cases q <;> rfl
@[simp] theorem changeMode_port_view : ((s.changeMode mode o).port q).view = (s.port q).view := by simp only [State.changeMode, raiseBoth_port_view]; cases q <;> rfl
@[simp] theorem changeMode_port_mask : ((s.changeMode mode o).port q).mask = (s.port q).mask := by simp only [State.changeMode, raiseBoth_port_mask]; cases q <;> rfl
@[simp] theorem changeMode_port_tickPoint : ((s.changeMode mode o).port q).tickPoint = (s.port q).tickPoint := by simp only [State.changeMode, raiseBoth_port_tickPoint]; cases q <;> rfl
@[simp] theorem changeMode_port_tickPending : ((s.changeMode mode o).port q).tickPending = (s.port q).tickPending := by simp only [State.changeMode, raiseBoth_port_tickPending]; cases q <;> rfl
@[simp] theorem changeMode_port_list0 : ((s.changeMode mode o).port q).list0 = (s.port q).list0 := by simp only [State.changeMode, raiseBoth_port_list0]; cases q <;> rfl
@[simp] theorem changeMode_port_list1 : ((s.changeMode mode o).port q).list1 = (s.port q).list1 := by simp only [State.changeMode, raiseBoth_port_list1]; cases q <;> rfl
@[simp] theorem changeMode_port_slot : ((s.changeMode mode o).port q).slot = (s.port q).slot := by simp only [State.changeMode, raiseBoth_port_slot]; cases q <;> rfl
@[simp] theorem changeMode_port_store : ((s.changeMode mode o).port q).store = (s.port q).store := by simp only [State.changeMode, raiseBoth_port_store]; cases q <;> rfl
@[simp] theorem changeMode_port_sent : ((s.changeMode mode o).port q).sent = (s.port q).sent := by simp only [State.changeMode, raiseBoth_port_sent]; cases q <;> rfl
@[simp] theorem backToScanning_pending : s.backToScanning.pending = s.pending := rfl
@[simp] theorem backToScanning_pins : s.backToScanning.pins = s.pins := rfl
@[simp] theorem backToScanning_frame : s.backToScanning.frame = s.frame := rfl
@[simp] theorem backToScanning_search : s.backToScanning.search = s.search := rfl
@[simp] theorem backToScanning_tool0 : s.backToScanning.tool0 = s.tool0 := rfl
@[simp] theorem backToScanning_tool1 : s.backToScanning.tool1 = s.tool1 := rfl
@[simp] theorem backToScanning_ring : s.backToScanning.ring = s.ring := rfl
@[simp] theorem backToScanning_nextSeq : s.backToScanning.nextSeq = s.nextSeq := rfl
@[simp] theorem backToScanning_snap0 : s.backToScanning.snap0 = s.snap0 := rfl
@[simp] theorem backToScanning_snap1 : s.backToScanning.snap1 = s.snap1 := rfl
@[simp] theorem backToScanning_settings : s.backToScanning.settings = s.settings := rfl
@[simp] theorem backToScanning_waiting : s.backToScanning.waiting = s.waiting := rfl
@[simp] theorem backToScanning_epoch : s.backToScanning.epoch = s.epoch := rfl
@[simp] theorem backToScanning_portS : s.backToScanning.portS = s.portS := rfl
@[simp] theorem backToScanning_portD : s.backToScanning.portD = s.portD := rfl
@[simp] theorem backToScanning_keys : s.backToScanning.keys = s.keys := rfl
@[simp] theorem backToScanning_port : s.backToScanning.port q = s.port q := by cases q <;> rfl
@[simp] theorem resetSearch_pending : s.resetSearch.pending = s.pending := rfl
@[simp] theorem resetSearch_pins : s.resetSearch.pins = s.pins := rfl
@[simp] theorem resetSearch_frame : s.resetSearch.frame = s.frame := rfl
@[simp] theorem resetSearch_tool0 : s.resetSearch.tool0 = s.tool0 := rfl
@[simp] theorem resetSearch_tool1 : s.resetSearch.tool1 = s.tool1 := rfl
@[simp] theorem resetSearch_ring : s.resetSearch.ring = s.ring := rfl
@[simp] theorem resetSearch_nextSeq : s.resetSearch.nextSeq = s.nextSeq := rfl
@[simp] theorem resetSearch_snap0 : s.resetSearch.snap0 = s.snap0 := rfl
@[simp] theorem resetSearch_snap1 : s.resetSearch.snap1 = s.snap1 := rfl
@[simp] theorem resetSearch_settings : s.resetSearch.settings = s.settings := rfl
@[simp] theorem resetSearch_waiting : s.resetSearch.waiting = s.waiting := rfl
@[simp] theorem resetSearch_epoch : s.resetSearch.epoch = s.epoch := rfl
@[simp] theorem resetSearch_control : s.resetSearch.control = s.control := rfl
@[simp] theorem resetSearch_portS : s.resetSearch.portS = s.portS := rfl
@[simp] theorem resetSearch_portD : s.resetSearch.portD = s.portD := rfl
@[simp] theorem resetSearch_keys : s.resetSearch.keys = s.keys := rfl
@[simp] theorem resetSearch_port : s.resetSearch.port q = s.port q := by cases q <;> rfl

/-! ## drivesZero -/

@[simp] theorem drivesZero_pending : (s.drivesZero p).pending = s.pending := by cases p <;> rfl
@[simp] theorem drivesZero_pins : (s.drivesZero p).pins = s.pins := by cases p <;> rfl
@[simp] theorem drivesZero_frame : (s.drivesZero p).frame = s.frame := by cases p <;> rfl
@[simp] theorem drivesZero_search : (s.drivesZero p).search = s.search := by cases p <;> rfl
@[simp] theorem drivesZero_tool0 : (s.drivesZero p).tool0 = s.tool0 := by cases p <;> rfl
@[simp] theorem drivesZero_tool1 : (s.drivesZero p).tool1 = s.tool1 := by cases p <;> rfl
@[simp] theorem drivesZero_ring : (s.drivesZero p).ring = s.ring := by cases p <;> rfl
@[simp] theorem drivesZero_nextSeq : (s.drivesZero p).nextSeq = s.nextSeq := by cases p <;> rfl
@[simp] theorem drivesZero_snap0 : (s.drivesZero p).snap0 = s.snap0 := by cases p <;> rfl
@[simp] theorem drivesZero_snap1 : (s.drivesZero p).snap1 = s.snap1 := by cases p <;> rfl
@[simp] theorem drivesZero_settings : (s.drivesZero p).settings = s.settings := by cases p <;> rfl
@[simp] theorem drivesZero_waiting : (s.drivesZero p).waiting = s.waiting := by cases p <;> rfl
@[simp] theorem drivesZero_epoch : (s.drivesZero p).epoch = s.epoch := by cases p <;> rfl
@[simp] theorem drivesZero_control : (s.drivesZero p).control = s.control := by cases p <;> rfl
@[simp] theorem drivesZero_keys : (s.drivesZero p).keys = s.keys := by cases p <;> rfl
/-- A port after zeros are driven at `p`. -/
theorem port_drivesZero : (s.drivesZero p).port q = if q = p then { s.port p with sent := [] } else s.port q := by
  cases p <;> cases q <;> rfl
@[simp] theorem drivesZero_port_cursor : ((s.drivesZero p).port q).cursor = (s.port q).cursor := by cases p <;> cases q <;> rfl
@[simp] theorem drivesZero_port_watermark : ((s.drivesZero p).port q).watermark = (s.port q).watermark := by cases p <;> cases q <;> rfl
@[simp] theorem drivesZero_port_view : ((s.drivesZero p).port q).view = (s.port q).view := by cases p <;> cases q <;> rfl
@[simp] theorem drivesZero_port_events : ((s.drivesZero p).port q).events = (s.port q).events := by cases p <;> cases q <;> rfl
@[simp] theorem drivesZero_port_mask : ((s.drivesZero p).port q).mask = (s.port q).mask := by cases p <;> cases q <;> rfl
@[simp] theorem drivesZero_port_tickPoint : ((s.drivesZero p).port q).tickPoint = (s.port q).tickPoint := by cases p <;> cases q <;> rfl
@[simp] theorem drivesZero_port_tickPending : ((s.drivesZero p).port q).tickPending = (s.port q).tickPending := by cases p <;> cases q <;> rfl
@[simp] theorem drivesZero_port_list0 : ((s.drivesZero p).port q).list0 = (s.port q).list0 := by cases p <;> cases q <;> rfl
@[simp] theorem drivesZero_port_list1 : ((s.drivesZero p).port q).list1 = (s.port q).list1 := by cases p <;> cases q <;> rfl
@[simp] theorem drivesZero_port_slot : ((s.drivesZero p).port q).slot = (s.port q).slot := by cases p <;> cases q <;> rfl
@[simp] theorem drivesZero_port_store : ((s.drivesZero p).port q).store = (s.port q).store := by cases p <;> cases q <;> rfl
/-- The part drives 0 in every byte of a transaction that drives zeros (R121). -/
@[simp] theorem driven_drivesZero (k : Nat) : (s.drivesZero p).driven p k = 0 := by cases p <;> rfl
/-- The part drives 0 in every byte of a request transaction that is answered (R121). -/
@[simp] theorem driven_answer (k : Nat) : (s.answer p code r pl).driven p k = 0 := by cases p <;> rfl

end Sys2Proof.Machine
end

