-- ==== Sys2Proof/Laws/Frames.lean ====
section
/-! SUPPORT. What each composite operation leaves unchanged: one lemma per field. -/

namespace Sys2Proof.Machine

variable (s : State) (p q : Port) (w : Waiting) (old : Vector Profile 4) (m : SyncMode) (kc : KeyCombo) (tm : Bool)
  (i : ToolId) (co : Option (BitVec 4)) (n : Fin 8) (j : Job) (o : SlotOutcome) (b : Nat) (bank : List Nat) (ax : Axis)
  (cur : SearchCursor) (x y : List Nat) (ow : Port) (r : ResultCode) (rd : Reading) (delay : Byte) (tk : TaskKind) (d now : Nat) (rs : List Sample)

/-! ## untilFrame -/

@[simp] theorem untilFrame_pending : (s.untilFrame d).pending = s.pending := by simp [State.untilFrame]
@[simp] theorem untilFrame_search : (s.untilFrame d).search = s.search := by simp [State.untilFrame]
@[simp] theorem untilFrame_tool0 : (s.untilFrame d).tool0 = s.tool0 := by simp [State.untilFrame]
@[simp] theorem untilFrame_tool1 : (s.untilFrame d).tool1 = s.tool1 := by simp [State.untilFrame]
@[simp] theorem untilFrame_ring : (s.untilFrame d).ring = s.ring := by simp [State.untilFrame]
@[simp] theorem untilFrame_nextSeq : (s.untilFrame d).nextSeq = s.nextSeq := by simp [State.untilFrame]
@[simp] theorem untilFrame_snap0 : (s.untilFrame d).snap0 = s.snap0 := by simp [State.untilFrame]
@[simp] theorem untilFrame_snap1 : (s.untilFrame d).snap1 = s.snap1 := by simp [State.untilFrame]
@[simp] theorem untilFrame_settings : (s.untilFrame d).settings = s.settings := by simp [State.untilFrame]
@[simp] theorem untilFrame_waiting : (s.untilFrame d).waiting = s.waiting := by simp [State.untilFrame]
@[simp] theorem untilFrame_epoch : (s.untilFrame d).epoch = s.epoch := by simp [State.untilFrame]
@[simp] theorem untilFrame_portS : (s.untilFrame d).portS = s.portS := by simp [State.untilFrame]
@[simp] theorem untilFrame_portD : (s.untilFrame d).portD = s.portD := by simp [State.untilFrame]
@[simp] theorem untilFrame_port : (s.untilFrame d).port q = s.port q := by cases q <;> simp [port_s, port_d]

/-! ## until -/

@[simp] theorem until_pending : (s.until now d).pending = s.pending := by simp [State.until]
@[simp] theorem until_search : (s.until now d).search = s.search := by simp [State.until]
@[simp] theorem until_tool0 : (s.until now d).tool0 = s.tool0 := by simp [State.until]
@[simp] theorem until_tool1 : (s.until now d).tool1 = s.tool1 := by simp [State.until]
@[simp] theorem until_ring : (s.until now d).ring = s.ring := by simp [State.until]
@[simp] theorem until_nextSeq : (s.until now d).nextSeq = s.nextSeq := by simp [State.until]
@[simp] theorem until_snap0 : (s.until now d).snap0 = s.snap0 := by simp [State.until]
@[simp] theorem until_snap1 : (s.until now d).snap1 = s.snap1 := by simp [State.until]
@[simp] theorem until_settings : (s.until now d).settings = s.settings := by simp [State.until]
@[simp] theorem until_waiting : (s.until now d).waiting = s.waiting := by simp [State.until]
@[simp] theorem until_epoch : (s.until now d).epoch = s.epoch := by simp [State.until]
@[simp] theorem until_portS : (s.until now d).portS = s.portS := by simp [State.until]
@[simp] theorem until_portD : (s.until now d).portD = s.portD := by simp [State.until]
@[simp] theorem until_port : (s.until now d).port q = s.port q := by cases q <;> simp [port_s, port_d]

/-! ## raiseSettingsChanged -/

@[simp] theorem raiseSettingsChanged_pending : (s.raiseSettingsChanged w).pending = s.pending := by simp [State.raiseSettingsChanged]
@[simp] theorem raiseSettingsChanged_pins : (s.raiseSettingsChanged w).pins = s.pins := by simp [State.raiseSettingsChanged]
@[simp] theorem raiseSettingsChanged_frame : (s.raiseSettingsChanged w).frame = s.frame := by simp [State.raiseSettingsChanged]
@[simp] theorem raiseSettingsChanged_search : (s.raiseSettingsChanged w).search = s.search := by simp [State.raiseSettingsChanged]
@[simp] theorem raiseSettingsChanged_tool0 : (s.raiseSettingsChanged w).tool0 = s.tool0 := by simp [State.raiseSettingsChanged]
@[simp] theorem raiseSettingsChanged_tool1 : (s.raiseSettingsChanged w).tool1 = s.tool1 := by simp [State.raiseSettingsChanged]
@[simp] theorem raiseSettingsChanged_ring : (s.raiseSettingsChanged w).ring = s.ring := by simp [State.raiseSettingsChanged]
@[simp] theorem raiseSettingsChanged_nextSeq : (s.raiseSettingsChanged w).nextSeq = s.nextSeq := by simp [State.raiseSettingsChanged]
@[simp] theorem raiseSettingsChanged_snap0 : (s.raiseSettingsChanged w).snap0 = s.snap0 := by simp [State.raiseSettingsChanged]
@[simp] theorem raiseSettingsChanged_snap1 : (s.raiseSettingsChanged w).snap1 = s.snap1 := by simp [State.raiseSettingsChanged]
@[simp] theorem raiseSettingsChanged_settings : (s.raiseSettingsChanged w).settings = s.settings := by simp [State.raiseSettingsChanged]
@[simp] theorem raiseSettingsChanged_waiting : (s.raiseSettingsChanged w).waiting = s.waiting := by simp [State.raiseSettingsChanged]
@[simp] theorem raiseSettingsChanged_epoch : (s.raiseSettingsChanged w).epoch = s.epoch := by simp [State.raiseSettingsChanged]
@[simp] theorem raiseSettingsChanged_control : (s.raiseSettingsChanged w).control = s.control := by simp [State.raiseSettingsChanged]
@[simp] theorem raiseSettingsChanged_keys : (s.raiseSettingsChanged w).keys = s.keys := by simp [State.raiseSettingsChanged]
@[simp] theorem raiseSettingsChanged_port_cursor : ((s.raiseSettingsChanged w).port q).cursor = (s.port q).cursor := by simp [State.raiseSettingsChanged]
@[simp] theorem raiseSettingsChanged_port_watermark : ((s.raiseSettingsChanged w).port q).watermark = (s.port q).watermark := by simp [State.raiseSettingsChanged]
@[simp] theorem raiseSettingsChanged_port_view : ((s.raiseSettingsChanged w).port q).view = (s.port q).view := by simp [State.raiseSettingsChanged]
@[simp] theorem raiseSettingsChanged_port_mask : ((s.raiseSettingsChanged w).port q).mask = (s.port q).mask := by simp [State.raiseSettingsChanged]
@[simp] theorem raiseSettingsChanged_port_tickPoint : ((s.raiseSettingsChanged w).port q).tickPoint = (s.port q).tickPoint := by simp [State.raiseSettingsChanged]
@[simp] theorem raiseSettingsChanged_port_tickPending : ((s.raiseSettingsChanged w).port q).tickPending = (s.port q).tickPending := by simp [State.raiseSettingsChanged]
@[simp] theorem raiseSettingsChanged_port_list0 : ((s.raiseSettingsChanged w).port q).list0 = (s.port q).list0 := by simp [State.raiseSettingsChanged]
@[simp] theorem raiseSettingsChanged_port_list1 : ((s.raiseSettingsChanged w).port q).list1 = (s.port q).list1 := by simp [State.raiseSettingsChanged]
@[simp] theorem raiseSettingsChanged_port_slot : ((s.raiseSettingsChanged w).port q).slot = (s.port q).slot := by simp [State.raiseSettingsChanged]
@[simp] theorem raiseSettingsChanged_port_store : ((s.raiseSettingsChanged w).port q).store = (s.port q).store := by simp [State.raiseSettingsChanged]
@[simp] theorem raiseSettingsChanged_port_sent : ((s.raiseSettingsChanged w).port q).sent = (s.port q).sent := by simp [State.raiseSettingsChanged]

/-! ## profileEffects -/

@[simp] theorem profileEffects_pending : (s.profileEffects old).pending = s.pending := by rfl
@[simp] theorem profileEffects_pins : (s.profileEffects old).pins = s.pins := by rfl
@[simp] theorem profileEffects_frame : (s.profileEffects old).frame = s.frame := by rfl
@[simp] theorem profileEffects_ring : (s.profileEffects old).ring = s.ring := by rfl
@[simp] theorem profileEffects_nextSeq : (s.profileEffects old).nextSeq = s.nextSeq := by rfl
@[simp] theorem profileEffects_snap0 : (s.profileEffects old).snap0 = s.snap0 := by rfl
@[simp] theorem profileEffects_snap1 : (s.profileEffects old).snap1 = s.snap1 := by rfl
@[simp] theorem profileEffects_settings : (s.profileEffects old).settings = s.settings := by rfl
@[simp] theorem profileEffects_waiting : (s.profileEffects old).waiting = s.waiting := by rfl
@[simp] theorem profileEffects_epoch : (s.profileEffects old).epoch = s.epoch := by rfl
@[simp] theorem profileEffects_control : (s.profileEffects old).control = s.control := by rfl
@[simp] theorem profileEffects_portS : (s.profileEffects old).portS = s.portS := by rfl
@[simp] theorem profileEffects_portD : (s.profileEffects old).portD = s.portD := by rfl
@[simp] theorem profileEffects_keys : (s.profileEffects old).keys = s.keys := by rfl
@[simp] theorem profileEffects_port : (s.profileEffects old).port q = s.port q := by cases q <;> simp [port_s, port_d]

/-! ## syncEffects -/

@[simp] theorem syncEffects_pending : (s.syncEffects m).pending = s.pending := by unfold State.syncEffects; split <;> (try split) <;> rfl
@[simp] theorem syncEffects_pins : (s.syncEffects m).pins = s.pins := by unfold State.syncEffects; split <;> (try split) <;> rfl
@[simp] theorem syncEffects_search : (s.syncEffects m).search = s.search := by unfold State.syncEffects; split <;> (try split) <;> rfl
@[simp] theorem syncEffects_tool0 : (s.syncEffects m).tool0 = s.tool0 := by unfold State.syncEffects; split <;> (try split) <;> rfl
@[simp] theorem syncEffects_tool1 : (s.syncEffects m).tool1 = s.tool1 := by unfold State.syncEffects; split <;> (try split) <;> rfl
@[simp] theorem syncEffects_ring : (s.syncEffects m).ring = s.ring := by unfold State.syncEffects; split <;> (try split) <;> rfl
@[simp] theorem syncEffects_nextSeq : (s.syncEffects m).nextSeq = s.nextSeq := by unfold State.syncEffects; split <;> (try split) <;> rfl
@[simp] theorem syncEffects_snap0 : (s.syncEffects m).snap0 = s.snap0 := by unfold State.syncEffects; split <;> (try split) <;> rfl
@[simp] theorem syncEffects_snap1 : (s.syncEffects m).snap1 = s.snap1 := by unfold State.syncEffects; split <;> (try split) <;> rfl
@[simp] theorem syncEffects_settings : (s.syncEffects m).settings = s.settings := by unfold State.syncEffects; split <;> (try split) <;> rfl
@[simp] theorem syncEffects_waiting : (s.syncEffects m).waiting = s.waiting := by unfold State.syncEffects; split <;> (try split) <;> rfl
@[simp] theorem syncEffects_epoch : (s.syncEffects m).epoch = s.epoch := by unfold State.syncEffects; split <;> (try split) <;> rfl
@[simp] theorem syncEffects_control : (s.syncEffects m).control = s.control := by unfold State.syncEffects; split <;> (try split) <;> rfl
@[simp] theorem syncEffects_portS : (s.syncEffects m).portS = s.portS := by unfold State.syncEffects; split <;> (try split) <;> rfl
@[simp] theorem syncEffects_portD : (s.syncEffects m).portD = s.portD := by unfold State.syncEffects; split <;> (try split) <;> rfl
@[simp] theorem syncEffects_keys : (s.syncEffects m).keys = s.keys := by unfold State.syncEffects; split <;> (try split) <;> rfl
@[simp] theorem syncEffects_port : (s.syncEffects m).port q = s.port q := by cases q <;> simp [port_s, port_d]

/-! ## comboEffects -/

@[simp] theorem comboEffects_pending : (s.comboEffects kc).pending = s.pending := by unfold State.comboEffects; split <;> rfl
@[simp] theorem comboEffects_pins : (s.comboEffects kc).pins = s.pins := by unfold State.comboEffects; split <;> rfl
@[simp] theorem comboEffects_frame : (s.comboEffects kc).frame = s.frame := by unfold State.comboEffects; split <;> rfl
@[simp] theorem comboEffects_search : (s.comboEffects kc).search = s.search := by unfold State.comboEffects; split <;> rfl
@[simp] theorem comboEffects_tool0 : (s.comboEffects kc).tool0 = s.tool0 := by unfold State.comboEffects; split <;> rfl
@[simp] theorem comboEffects_tool1 : (s.comboEffects kc).tool1 = s.tool1 := by unfold State.comboEffects; split <;> rfl
@[simp] theorem comboEffects_ring : (s.comboEffects kc).ring = s.ring := by unfold State.comboEffects; split <;> rfl
@[simp] theorem comboEffects_nextSeq : (s.comboEffects kc).nextSeq = s.nextSeq := by unfold State.comboEffects; split <;> rfl
@[simp] theorem comboEffects_snap0 : (s.comboEffects kc).snap0 = s.snap0 := by unfold State.comboEffects; split <;> rfl
@[simp] theorem comboEffects_snap1 : (s.comboEffects kc).snap1 = s.snap1 := by unfold State.comboEffects; split <;> rfl
@[simp] theorem comboEffects_settings : (s.comboEffects kc).settings = s.settings := by unfold State.comboEffects; split <;> rfl
@[simp] theorem comboEffects_waiting : (s.comboEffects kc).waiting = s.waiting := by unfold State.comboEffects; split <;> rfl
@[simp] theorem comboEffects_epoch : (s.comboEffects kc).epoch = s.epoch := by unfold State.comboEffects; split <;> rfl
@[simp] theorem comboEffects_control : (s.comboEffects kc).control = s.control := by unfold State.comboEffects; split <;> rfl
@[simp] theorem comboEffects_portS : (s.comboEffects kc).portS = s.portS := by unfold State.comboEffects; split <;> rfl
@[simp] theorem comboEffects_portD : (s.comboEffects kc).portD = s.portD := by unfold State.comboEffects; split <;> rfl
@[simp] theorem comboEffects_port : (s.comboEffects kc).port q = s.port q := by cases q <;> simp [port_s, port_d]

/-! ## applyWaiting -/

@[simp] theorem applyWaiting_pending : (s.applyWaiting).pending = s.pending := by unfold State.applyWaiting; split <;> simp
@[simp] theorem applyWaiting_pins : (s.applyWaiting).pins = s.pins := by unfold State.applyWaiting; split <;> simp
@[simp] theorem applyWaiting_ring : (s.applyWaiting).ring = s.ring := by unfold State.applyWaiting; split <;> simp
@[simp] theorem applyWaiting_nextSeq : (s.applyWaiting).nextSeq = s.nextSeq := by unfold State.applyWaiting; split <;> simp
@[simp] theorem applyWaiting_snap0 : (s.applyWaiting).snap0 = s.snap0 := by unfold State.applyWaiting; split <;> simp
@[simp] theorem applyWaiting_snap1 : (s.applyWaiting).snap1 = s.snap1 := by unfold State.applyWaiting; split <;> simp
@[simp] theorem applyWaiting_control : (s.applyWaiting).control = s.control := by unfold State.applyWaiting; split <;> simp
@[simp] theorem applyWaiting_port_cursor : ((s.applyWaiting).port q).cursor = (s.port q).cursor := by unfold State.applyWaiting; split <;> simp
@[simp] theorem applyWaiting_port_watermark : ((s.applyWaiting).port q).watermark = (s.port q).watermark := by unfold State.applyWaiting; split <;> simp
@[simp] theorem applyWaiting_port_view : ((s.applyWaiting).port q).view = (s.port q).view := by unfold State.applyWaiting; split <;> simp
@[simp] theorem applyWaiting_port_mask : ((s.applyWaiting).port q).mask = (s.port q).mask := by unfold State.applyWaiting; split <;> simp
@[simp] theorem applyWaiting_port_tickPoint : ((s.applyWaiting).port q).tickPoint = (s.port q).tickPoint := by unfold State.applyWaiting; split <;> simp
@[simp] theorem applyWaiting_port_tickPending : ((s.applyWaiting).port q).tickPending = (s.port q).tickPending := by unfold State.applyWaiting; split <;> simp
@[simp] theorem applyWaiting_port_list0 : ((s.applyWaiting).port q).list0 = (s.port q).list0 := by unfold State.applyWaiting; split <;> simp
@[simp] theorem applyWaiting_port_list1 : ((s.applyWaiting).port q).list1 = (s.port q).list1 := by unfold State.applyWaiting; split <;> simp
@[simp] theorem applyWaiting_port_slot : ((s.applyWaiting).port q).slot = (s.port q).slot := by unfold State.applyWaiting; split <;> simp
@[simp] theorem applyWaiting_port_store : ((s.applyWaiting).port q).store = (s.port q).store := by unfold State.applyWaiting; split <;> simp
@[simp] theorem applyWaiting_port_sent : ((s.applyWaiting).port q).sent = (s.port q).sent := by unfold State.applyWaiting; split <;> simp

/-! ## applyPlan -/

@[simp] theorem applyPlan_pending : (s.applyPlan).pending = s.pending := by unfold State.applyPlan; split <;> simp
@[simp] theorem applyPlan_pins : (s.applyPlan).pins = s.pins := by unfold State.applyPlan; split <;> simp
@[simp] theorem applyPlan_search : (s.applyPlan).search = s.search := by unfold State.applyPlan; split <;> simp
@[simp] theorem applyPlan_tool0 : (s.applyPlan).tool0 = s.tool0 := by unfold State.applyPlan; split <;> simp
@[simp] theorem applyPlan_tool1 : (s.applyPlan).tool1 = s.tool1 := by unfold State.applyPlan; split <;> simp
@[simp] theorem applyPlan_ring : (s.applyPlan).ring = s.ring := by unfold State.applyPlan; split <;> simp
@[simp] theorem applyPlan_nextSeq : (s.applyPlan).nextSeq = s.nextSeq := by unfold State.applyPlan; split <;> simp
@[simp] theorem applyPlan_snap0 : (s.applyPlan).snap0 = s.snap0 := by unfold State.applyPlan; split <;> simp
@[simp] theorem applyPlan_snap1 : (s.applyPlan).snap1 = s.snap1 := by unfold State.applyPlan; split <;> simp
@[simp] theorem applyPlan_settings : (s.applyPlan).settings = s.settings := by unfold State.applyPlan; split <;> simp
@[simp] theorem applyPlan_waiting : (s.applyPlan).waiting = s.waiting := by unfold State.applyPlan; split <;> simp
@[simp] theorem applyPlan_epoch : (s.applyPlan).epoch = s.epoch := by unfold State.applyPlan; split <;> simp
@[simp] theorem applyPlan_control : (s.applyPlan).control = s.control := by unfold State.applyPlan; split <;> simp
@[simp] theorem applyPlan_keys : (s.applyPlan).keys = s.keys := by unfold State.applyPlan; split <;> simp
@[simp] theorem applyPlan_port_cursor : ((s.applyPlan).port q).cursor = (s.port q).cursor := by unfold State.applyPlan; split <;> simp
@[simp] theorem applyPlan_port_watermark : ((s.applyPlan).port q).watermark = (s.port q).watermark := by unfold State.applyPlan; split <;> simp
@[simp] theorem applyPlan_port_view : ((s.applyPlan).port q).view = (s.port q).view := by unfold State.applyPlan; split <;> simp
@[simp] theorem applyPlan_port_mask : ((s.applyPlan).port q).mask = (s.port q).mask := by unfold State.applyPlan; split <;> simp
@[simp] theorem applyPlan_port_tickPoint : ((s.applyPlan).port q).tickPoint = (s.port q).tickPoint := by unfold State.applyPlan; split <;> simp
@[simp] theorem applyPlan_port_tickPending : ((s.applyPlan).port q).tickPending = (s.port q).tickPending := by unfold State.applyPlan; split <;> simp
@[simp] theorem applyPlan_port_list0 : ((s.applyPlan).port q).list0 = (s.port q).list0 := by unfold State.applyPlan; split <;> simp
@[simp] theorem applyPlan_port_list1 : ((s.applyPlan).port q).list1 = (s.port q).list1 := by unfold State.applyPlan; split <;> simp
@[simp] theorem applyPlan_port_store : ((s.applyPlan).port q).store = (s.port q).store := by unfold State.applyPlan; split <;> simp
@[simp] theorem applyPlan_port_sent : ((s.applyPlan).port q).sent = (s.port q).sent := by unfold State.applyPlan; split <;> simp

/-! ## syncExpire -/

@[simp] theorem syncExpire_pending : (s.syncExpire).pending = s.pending := by simp [State.syncExpire]
@[simp] theorem syncExpire_pins : (s.syncExpire).pins = s.pins := by simp [State.syncExpire]
@[simp] theorem syncExpire_search : (s.syncExpire).search = s.search := by simp [State.syncExpire]
@[simp] theorem syncExpire_tool0 : (s.syncExpire).tool0 = s.tool0 := by simp [State.syncExpire]
@[simp] theorem syncExpire_tool1 : (s.syncExpire).tool1 = s.tool1 := by simp [State.syncExpire]
@[simp] theorem syncExpire_ring : (s.syncExpire).ring = s.ring := by simp [State.syncExpire]
@[simp] theorem syncExpire_nextSeq : (s.syncExpire).nextSeq = s.nextSeq := by simp [State.syncExpire]
@[simp] theorem syncExpire_snap0 : (s.syncExpire).snap0 = s.snap0 := by simp [State.syncExpire]
@[simp] theorem syncExpire_snap1 : (s.syncExpire).snap1 = s.snap1 := by simp [State.syncExpire]
@[simp] theorem syncExpire_settings : (s.syncExpire).settings = s.settings := by simp [State.syncExpire]
@[simp] theorem syncExpire_waiting : (s.syncExpire).waiting = s.waiting := by simp [State.syncExpire]
@[simp] theorem syncExpire_epoch : (s.syncExpire).epoch = s.epoch := by simp [State.syncExpire]
@[simp] theorem syncExpire_control : (s.syncExpire).control = s.control := by simp [State.syncExpire]
@[simp] theorem syncExpire_keys : (s.syncExpire).keys = s.keys := by simp [State.syncExpire]
@[simp] theorem syncExpire_port_cursor : ((s.syncExpire).port q).cursor = (s.port q).cursor := by simp [State.syncExpire]
@[simp] theorem syncExpire_port_watermark : ((s.syncExpire).port q).watermark = (s.port q).watermark := by simp [State.syncExpire]
@[simp] theorem syncExpire_port_view : ((s.syncExpire).port q).view = (s.port q).view := by simp [State.syncExpire]
@[simp] theorem syncExpire_port_mask : ((s.syncExpire).port q).mask = (s.port q).mask := by simp [State.syncExpire]
@[simp] theorem syncExpire_port_tickPoint : ((s.syncExpire).port q).tickPoint = (s.port q).tickPoint := by simp [State.syncExpire]
@[simp] theorem syncExpire_port_tickPending : ((s.syncExpire).port q).tickPending = (s.port q).tickPending := by simp [State.syncExpire]
@[simp] theorem syncExpire_port_list0 : ((s.syncExpire).port q).list0 = (s.port q).list0 := by simp [State.syncExpire]
@[simp] theorem syncExpire_port_list1 : ((s.syncExpire).port q).list1 = (s.port q).list1 := by simp [State.syncExpire]
@[simp] theorem syncExpire_port_slot : ((s.syncExpire).port q).slot = (s.port q).slot := by simp [State.syncExpire]
@[simp] theorem syncExpire_port_store : ((s.syncExpire).port q).store = (s.port q).store := by simp [State.syncExpire]
@[simp] theorem syncExpire_port_sent : ((s.syncExpire).port q).sent = (s.port q).sent := by simp [State.syncExpire]

/-! ## expireAfterChange -/

@[simp] theorem expireAfterChange_pending : (s.expireAfterChange tm).pending = s.pending := by unfold State.expireAfterChange; split <;> (try split) <;> simp
@[simp] theorem expireAfterChange_pins : (s.expireAfterChange tm).pins = s.pins := by unfold State.expireAfterChange; split <;> (try split) <;> simp
@[simp] theorem expireAfterChange_search : (s.expireAfterChange tm).search = s.search := by unfold State.expireAfterChange; split <;> (try split) <;> simp
@[simp] theorem expireAfterChange_tool0 : (s.expireAfterChange tm).tool0 = s.tool0 := by unfold State.expireAfterChange; split <;> (try split) <;> simp
@[simp] theorem expireAfterChange_tool1 : (s.expireAfterChange tm).tool1 = s.tool1 := by unfold State.expireAfterChange; split <;> (try split) <;> simp
@[simp] theorem expireAfterChange_ring : (s.expireAfterChange tm).ring = s.ring := by unfold State.expireAfterChange; split <;> (try split) <;> simp
@[simp] theorem expireAfterChange_nextSeq : (s.expireAfterChange tm).nextSeq = s.nextSeq := by unfold State.expireAfterChange; split <;> (try split) <;> simp
@[simp] theorem expireAfterChange_snap0 : (s.expireAfterChange tm).snap0 = s.snap0 := by unfold State.expireAfterChange; split <;> (try split) <;> simp
@[simp] theorem expireAfterChange_snap1 : (s.expireAfterChange tm).snap1 = s.snap1 := by unfold State.expireAfterChange; split <;> (try split) <;> simp
@[simp] theorem expireAfterChange_settings : (s.expireAfterChange tm).settings = s.settings := by unfold State.expireAfterChange; split <;> (try split) <;> simp
@[simp] theorem expireAfterChange_waiting : (s.expireAfterChange tm).waiting = s.waiting := by unfold State.expireAfterChange; split <;> (try split) <;> simp
@[simp] theorem expireAfterChange_epoch : (s.expireAfterChange tm).epoch = s.epoch := by unfold State.expireAfterChange; split <;> (try split) <;> simp
@[simp] theorem expireAfterChange_control : (s.expireAfterChange tm).control = s.control := by unfold State.expireAfterChange; split <;> (try split) <;> simp
@[simp] theorem expireAfterChange_keys : (s.expireAfterChange tm).keys = s.keys := by unfold State.expireAfterChange; split <;> (try split) <;> simp
@[simp] theorem expireAfterChange_port_cursor : ((s.expireAfterChange tm).port q).cursor = (s.port q).cursor := by unfold State.expireAfterChange; split <;> (try split) <;> simp
@[simp] theorem expireAfterChange_port_watermark : ((s.expireAfterChange tm).port q).watermark = (s.port q).watermark := by unfold State.expireAfterChange; split <;> (try split) <;> simp
@[simp] theorem expireAfterChange_port_view : ((s.expireAfterChange tm).port q).view = (s.port q).view := by unfold State.expireAfterChange; split <;> (try split) <;> simp
@[simp] theorem expireAfterChange_port_mask : ((s.expireAfterChange tm).port q).mask = (s.port q).mask := by unfold State.expireAfterChange; split <;> (try split) <;> simp
@[simp] theorem expireAfterChange_port_tickPoint : ((s.expireAfterChange tm).port q).tickPoint = (s.port q).tickPoint := by unfold State.expireAfterChange; split <;> (try split) <;> simp
@[simp] theorem expireAfterChange_port_tickPending : ((s.expireAfterChange tm).port q).tickPending = (s.port q).tickPending := by unfold State.expireAfterChange; split <;> (try split) <;> simp
@[simp] theorem expireAfterChange_port_list0 : ((s.expireAfterChange tm).port q).list0 = (s.port q).list0 := by unfold State.expireAfterChange; split <;> (try split) <;> simp
@[simp] theorem expireAfterChange_port_list1 : ((s.expireAfterChange tm).port q).list1 = (s.port q).list1 := by unfold State.expireAfterChange; split <;> (try split) <;> simp
@[simp] theorem expireAfterChange_port_slot : ((s.expireAfterChange tm).port q).slot = (s.port q).slot := by unfold State.expireAfterChange; split <;> (try split) <;> simp
@[simp] theorem expireAfterChange_port_store : ((s.expireAfterChange tm).port q).store = (s.port q).store := by unfold State.expireAfterChange; split <;> (try split) <;> simp
@[simp] theorem expireAfterChange_port_sent : ((s.expireAfterChange tm).port q).sent = (s.port q).sent := by unfold State.expireAfterChange; split <;> (try split) <;> simp

/-! ## enterSurvey -/

@[simp] theorem enterSurvey_pending : (s.enterSurvey).pending = s.pending := by unfold State.enterSurvey; split <;> (try split) <;> simp
@[simp] theorem enterSurvey_pins : (s.enterSurvey).pins = s.pins := by unfold State.enterSurvey; split <;> (try split) <;> simp
@[simp] theorem enterSurvey_frame : (s.enterSurvey).frame = s.frame := by unfold State.enterSurvey; split <;> (try split) <;> simp
@[simp] theorem enterSurvey_search : (s.enterSurvey).search = s.search := by unfold State.enterSurvey; split <;> (try split) <;> simp
@[simp] theorem enterSurvey_tool0 : (s.enterSurvey).tool0 = s.tool0 := by unfold State.enterSurvey; split <;> (try split) <;> simp
@[simp] theorem enterSurvey_tool1 : (s.enterSurvey).tool1 = s.tool1 := by unfold State.enterSurvey; split <;> (try split) <;> simp
@[simp] theorem enterSurvey_ring : (s.enterSurvey).ring = s.ring := by unfold State.enterSurvey; split <;> (try split) <;> simp
@[simp] theorem enterSurvey_nextSeq : (s.enterSurvey).nextSeq = s.nextSeq := by unfold State.enterSurvey; split <;> (try split) <;> simp
@[simp] theorem enterSurvey_snap0 : (s.enterSurvey).snap0 = s.snap0 := by unfold State.enterSurvey; split <;> (try split) <;> simp
@[simp] theorem enterSurvey_snap1 : (s.enterSurvey).snap1 = s.snap1 := by unfold State.enterSurvey; split <;> (try split) <;> simp
@[simp] theorem enterSurvey_settings : (s.enterSurvey).settings = s.settings := by unfold State.enterSurvey; split <;> (try split) <;> simp
@[simp] theorem enterSurvey_waiting : (s.enterSurvey).waiting = s.waiting := by unfold State.enterSurvey; split <;> (try split) <;> simp
@[simp] theorem enterSurvey_epoch : (s.enterSurvey).epoch = s.epoch := by unfold State.enterSurvey; split <;> (try split) <;> simp
@[simp] theorem enterSurvey_keys : (s.enterSurvey).keys = s.keys := by unfold State.enterSurvey; split <;> (try split) <;> simp
@[simp] theorem enterSurvey_port_cursor : ((s.enterSurvey).port q).cursor = (s.port q).cursor := by unfold State.enterSurvey; split <;> (try split) <;> simp
@[simp] theorem enterSurvey_port_watermark : ((s.enterSurvey).port q).watermark = (s.port q).watermark := by unfold State.enterSurvey; split <;> (try split) <;> simp
@[simp] theorem enterSurvey_port_view : ((s.enterSurvey).port q).view = (s.port q).view := by unfold State.enterSurvey; split <;> (try split) <;> simp
@[simp] theorem enterSurvey_port_mask : ((s.enterSurvey).port q).mask = (s.port q).mask := by unfold State.enterSurvey; split <;> (try split) <;> simp
@[simp] theorem enterSurvey_port_tickPoint : ((s.enterSurvey).port q).tickPoint = (s.port q).tickPoint := by unfold State.enterSurvey; split <;> (try split) <;> simp
@[simp] theorem enterSurvey_port_tickPending : ((s.enterSurvey).port q).tickPending = (s.port q).tickPending := by unfold State.enterSurvey; split <;> (try split) <;> simp
@[simp] theorem enterSurvey_port_list0 : ((s.enterSurvey).port q).list0 = (s.port q).list0 := by unfold State.enterSurvey; split <;> (try split) <;> simp
@[simp] theorem enterSurvey_port_list1 : ((s.enterSurvey).port q).list1 = (s.port q).list1 := by unfold State.enterSurvey; split <;> (try split) <;> simp
@[simp] theorem enterSurvey_port_slot : ((s.enterSurvey).port q).slot = (s.port q).slot := by unfold State.enterSurvey; split <;> (try split) <;> simp
@[simp] theorem enterSurvey_port_store : ((s.enterSurvey).port q).store = (s.port q).store := by unfold State.enterSurvey; split <;> (try split) <;> simp
@[simp] theorem enterSurvey_port_sent : ((s.enterSurvey).port q).sent = (s.port q).sent := by unfold State.enterSurvey; split <;> (try split) <;> simp

/-! ## layOut -/

@[simp] theorem layOut_pending : (s.layOut).pending = s.pending := by rfl
@[simp] theorem layOut_pins : (s.layOut).pins = s.pins := by rfl
@[simp] theorem layOut_search : (s.layOut).search = s.search := by rfl
@[simp] theorem layOut_tool0 : (s.layOut).tool0 = s.tool0 := by rfl
@[simp] theorem layOut_tool1 : (s.layOut).tool1 = s.tool1 := by rfl
@[simp] theorem layOut_ring : (s.layOut).ring = s.ring := by rfl
@[simp] theorem layOut_nextSeq : (s.layOut).nextSeq = s.nextSeq := by rfl
@[simp] theorem layOut_snap0 : (s.layOut).snap0 = s.snap0 := by rfl
@[simp] theorem layOut_snap1 : (s.layOut).snap1 = s.snap1 := by rfl
@[simp] theorem layOut_settings : (s.layOut).settings = s.settings := by rfl
@[simp] theorem layOut_waiting : (s.layOut).waiting = s.waiting := by rfl
@[simp] theorem layOut_epoch : (s.layOut).epoch = s.epoch := by rfl
@[simp] theorem layOut_control : (s.layOut).control = s.control := by rfl
@[simp] theorem layOut_portS : (s.layOut).portS = s.portS := by rfl
@[simp] theorem layOut_portD : (s.layOut).portD = s.portD := by rfl
@[simp] theorem layOut_keys : (s.layOut).keys = s.keys := by rfl
@[simp] theorem layOut_port : (s.layOut).port q = s.port q := by cases q <;> simp [port_s, port_d]

/-! ## frameStart -/

@[simp] theorem frameStart_pending : (s.frameStart).pending = s.pending := by simp [State.frameStart]
@[simp] theorem frameStart_pins : (s.frameStart).pins = s.pins := by simp [State.frameStart]
@[simp] theorem frameStart_ring : (s.frameStart).ring = s.ring := by simp [State.frameStart]
@[simp] theorem frameStart_nextSeq : (s.frameStart).nextSeq = s.nextSeq := by simp [State.frameStart]
@[simp] theorem frameStart_snap0 : (s.frameStart).snap0 = s.snap0 := by simp [State.frameStart]
@[simp] theorem frameStart_snap1 : (s.frameStart).snap1 = s.snap1 := by simp [State.frameStart]
@[simp] theorem frameStart_port_cursor : ((s.frameStart).port q).cursor = (s.port q).cursor := by simp [State.frameStart]
@[simp] theorem frameStart_port_watermark : ((s.frameStart).port q).watermark = (s.port q).watermark := by simp [State.frameStart]
@[simp] theorem frameStart_port_view : ((s.frameStart).port q).view = (s.port q).view := by simp [State.frameStart]
@[simp] theorem frameStart_port_mask : ((s.frameStart).port q).mask = (s.port q).mask := by simp [State.frameStart]
@[simp] theorem frameStart_port_tickPoint : ((s.frameStart).port q).tickPoint = (s.port q).tickPoint := by simp [State.frameStart]
@[simp] theorem frameStart_port_list0 : ((s.frameStart).port q).list0 = (s.port q).list0 := by simp [State.frameStart]
@[simp] theorem frameStart_port_list1 : ((s.frameStart).port q).list1 = (s.port q).list1 := by simp [State.frameStart]
@[simp] theorem frameStart_port_store : ((s.frameStart).port q).store = (s.port q).store := by simp [State.frameStart]
@[simp] theorem frameStart_port_sent : ((s.frameStart).port q).sent = (s.port q).sent := by simp [State.frameStart]

/-! ## resume -/

@[simp] theorem resume_pending : (s.resume).pending = s.pending := by simp [State.resume]
@[simp] theorem resume_pins : (s.resume).pins = s.pins := by simp [State.resume]
@[simp] theorem resume_ring : (s.resume).ring = s.ring := by simp [State.resume]
@[simp] theorem resume_nextSeq : (s.resume).nextSeq = s.nextSeq := by simp [State.resume]
@[simp] theorem resume_snap0 : (s.resume).snap0 = s.snap0 := by simp [State.resume]
@[simp] theorem resume_snap1 : (s.resume).snap1 = s.snap1 := by simp [State.resume]
@[simp] theorem resume_port_cursor : ((s.resume).port q).cursor = (s.port q).cursor := by simp [State.resume]
@[simp] theorem resume_port_watermark : ((s.resume).port q).watermark = (s.port q).watermark := by simp [State.resume]
@[simp] theorem resume_port_view : ((s.resume).port q).view = (s.port q).view := by simp [State.resume]
@[simp] theorem resume_port_mask : ((s.resume).port q).mask = (s.port q).mask := by simp [State.resume]
@[simp] theorem resume_port_tickPoint : ((s.resume).port q).tickPoint = (s.port q).tickPoint := by simp [State.resume]
@[simp] theorem resume_port_list0 : ((s.resume).port q).list0 = (s.port q).list0 := by simp [State.resume]
@[simp] theorem resume_port_list1 : ((s.resume).port q).list1 = (s.port q).list1 := by simp [State.resume]
@[simp] theorem resume_port_store : ((s.resume).port q).store = (s.port q).store := by simp [State.resume]
@[simp] theorem resume_port_sent : ((s.resume).port q).sent = (s.port q).sent := by simp [State.resume]

/-! ## endHeld -/

@[simp] theorem endHeld_pending : (s.endHeld).pending = s.pending := by simp [State.endHeld]
@[simp] theorem endHeld_pins : (s.endHeld).pins = s.pins := by simp [State.endHeld]
@[simp] theorem endHeld_ring : (s.endHeld).ring = s.ring := by simp [State.endHeld]
@[simp] theorem endHeld_nextSeq : (s.endHeld).nextSeq = s.nextSeq := by simp [State.endHeld]
@[simp] theorem endHeld_snap0 : (s.endHeld).snap0 = s.snap0 := by simp [State.endHeld]
@[simp] theorem endHeld_snap1 : (s.endHeld).snap1 = s.snap1 := by simp [State.endHeld]
@[simp] theorem endHeld_port_cursor : ((s.endHeld).port q).cursor = (s.port q).cursor := by simp [State.endHeld]
@[simp] theorem endHeld_port_watermark : ((s.endHeld).port q).watermark = (s.port q).watermark := by simp [State.endHeld]
@[simp] theorem endHeld_port_view : ((s.endHeld).port q).view = (s.port q).view := by simp [State.endHeld]
@[simp] theorem endHeld_port_mask : ((s.endHeld).port q).mask = (s.port q).mask := by simp [State.endHeld]
@[simp] theorem endHeld_port_tickPoint : ((s.endHeld).port q).tickPoint = (s.port q).tickPoint := by simp [State.endHeld]
@[simp] theorem endHeld_port_list0 : ((s.endHeld).port q).list0 = (s.port q).list0 := by simp [State.endHeld]
@[simp] theorem endHeld_port_list1 : ((s.endHeld).port q).list1 = (s.port q).list1 := by simp [State.endHeld]
@[simp] theorem endHeld_port_store : ((s.endHeld).port q).store = (s.port q).store := by simp [State.endHeld]
@[simp] theorem endHeld_port_sent : ((s.endHeld).port q).sent = (s.port q).sent := by simp [State.endHeld]

/-! ## beginRun -/

@[simp] theorem beginRun_pending : (s.beginRun n j).pending = s.pending := by rfl
@[simp] theorem beginRun_pins : (s.beginRun n j).pins = s.pins := by rfl
@[simp] theorem beginRun_search : (s.beginRun n j).search = s.search := by rfl
@[simp] theorem beginRun_tool0 : (s.beginRun n j).tool0 = s.tool0 := by rfl
@[simp] theorem beginRun_tool1 : (s.beginRun n j).tool1 = s.tool1 := by rfl
@[simp] theorem beginRun_ring : (s.beginRun n j).ring = s.ring := by rfl
@[simp] theorem beginRun_nextSeq : (s.beginRun n j).nextSeq = s.nextSeq := by rfl
@[simp] theorem beginRun_snap0 : (s.beginRun n j).snap0 = s.snap0 := by rfl
@[simp] theorem beginRun_snap1 : (s.beginRun n j).snap1 = s.snap1 := by rfl
@[simp] theorem beginRun_settings : (s.beginRun n j).settings = s.settings := by rfl
@[simp] theorem beginRun_waiting : (s.beginRun n j).waiting = s.waiting := by rfl
@[simp] theorem beginRun_epoch : (s.beginRun n j).epoch = s.epoch := by rfl
@[simp] theorem beginRun_control : (s.beginRun n j).control = s.control := by rfl
@[simp] theorem beginRun_portS : (s.beginRun n j).portS = s.portS := by rfl
@[simp] theorem beginRun_portD : (s.beginRun n j).portD = s.portD := by rfl
@[simp] theorem beginRun_keys : (s.beginRun n j).keys = s.keys := by rfl
@[simp] theorem beginRun_port : (s.beginRun n j).port q = s.port q := by cases q <;> simp [port_s, port_d]

/-! ## enterCode -/

@[simp] theorem enterCode_pending : (s.enterCode i co).pending = s.pending := by rfl
@[simp] theorem enterCode_pins : (s.enterCode i co).pins = s.pins := by rfl
@[simp] theorem enterCode_frame : (s.enterCode i co).frame = s.frame := by rfl
@[simp] theorem enterCode_search : (s.enterCode i co).search = s.search := by rfl
@[simp] theorem enterCode_tool0 : (s.enterCode i co).tool0 = s.tool0 := by rfl
@[simp] theorem enterCode_tool1 : (s.enterCode i co).tool1 = s.tool1 := by rfl
@[simp] theorem enterCode_ring : (s.enterCode i co).ring = s.ring := by rfl
@[simp] theorem enterCode_nextSeq : (s.enterCode i co).nextSeq = s.nextSeq := by rfl
@[simp] theorem enterCode_snap0 : (s.enterCode i co).snap0 = s.snap0 := by rfl
@[simp] theorem enterCode_snap1 : (s.enterCode i co).snap1 = s.snap1 := by rfl
@[simp] theorem enterCode_settings : (s.enterCode i co).settings = s.settings := by rfl
@[simp] theorem enterCode_waiting : (s.enterCode i co).waiting = s.waiting := by rfl
@[simp] theorem enterCode_epoch : (s.enterCode i co).epoch = s.epoch := by rfl
@[simp] theorem enterCode_control : (s.enterCode i co).control = s.control := by rfl
@[simp] theorem enterCode_keys : (s.enterCode i co).keys = s.keys := by rfl
@[simp] theorem enterCode_port_cursor : ((s.enterCode i co).port q).cursor = (s.port q).cursor := by cases q <;> cases i <;> cases co <;> rfl
@[simp] theorem enterCode_port_watermark : ((s.enterCode i co).port q).watermark = (s.port q).watermark := by cases q <;> cases i <;> cases co <;> rfl
@[simp] theorem enterCode_port_view : ((s.enterCode i co).port q).view = (s.port q).view := by cases q <;> cases i <;> cases co <;> rfl
@[simp] theorem enterCode_port_events : ((s.enterCode i co).port q).events = (s.port q).events := by cases q <;> cases i <;> cases co <;> rfl
@[simp] theorem enterCode_port_mask : ((s.enterCode i co).port q).mask = (s.port q).mask := by cases q <;> cases i <;> cases co <;> rfl
@[simp] theorem enterCode_port_tickPoint : ((s.enterCode i co).port q).tickPoint = (s.port q).tickPoint := by cases q <;> cases i <;> cases co <;> rfl
@[simp] theorem enterCode_port_tickPending : ((s.enterCode i co).port q).tickPending = (s.port q).tickPending := by cases q <;> cases i <;> cases co <;> rfl
@[simp] theorem enterCode_port_slot : ((s.enterCode i co).port q).slot = (s.port q).slot := by cases q <;> cases i <;> cases co <;> rfl
@[simp] theorem enterCode_port_store : ((s.enterCode i co).port q).store = (s.port q).store := by cases q <;> cases i <;> cases co <;> rfl
@[simp] theorem enterCode_port_sent : ((s.enterCode i co).port q).sent = (s.port q).sent := by cases q <;> cases i <;> cases co <;> rfl

/-! ## waitingTest -/

@[simp] theorem waitingTest_pending : (s.waitingTest p).pending = s.pending := by simp [State.waitingTest]
@[simp] theorem waitingTest_pins : (s.waitingTest p).pins = s.pins := by simp [State.waitingTest]
@[simp] theorem waitingTest_frame : (s.waitingTest p).frame = s.frame := by simp [State.waitingTest]
@[simp] theorem waitingTest_search : (s.waitingTest p).search = s.search := by simp [State.waitingTest]
@[simp] theorem waitingTest_tool0 : (s.waitingTest p).tool0 = s.tool0 := by simp [State.waitingTest]
@[simp] theorem waitingTest_tool1 : (s.waitingTest p).tool1 = s.tool1 := by simp [State.waitingTest]
@[simp] theorem waitingTest_ring : (s.waitingTest p).ring = s.ring := by simp [State.waitingTest]
@[simp] theorem waitingTest_nextSeq : (s.waitingTest p).nextSeq = s.nextSeq := by simp [State.waitingTest]
@[simp] theorem waitingTest_snap0 : (s.waitingTest p).snap0 = s.snap0 := by simp [State.waitingTest]
@[simp] theorem waitingTest_snap1 : (s.waitingTest p).snap1 = s.snap1 := by simp [State.waitingTest]
@[simp] theorem waitingTest_settings : (s.waitingTest p).settings = s.settings := by simp [State.waitingTest]
@[simp] theorem waitingTest_waiting : (s.waitingTest p).waiting = s.waiting := by simp [State.waitingTest]
@[simp] theorem waitingTest_epoch : (s.waitingTest p).epoch = s.epoch := by simp [State.waitingTest]
@[simp] theorem waitingTest_control : (s.waitingTest p).control = s.control := by simp [State.waitingTest]
@[simp] theorem waitingTest_keys : (s.waitingTest p).keys = s.keys := by simp [State.waitingTest]
@[simp] theorem waitingTest_port_cursor : ((s.waitingTest p).port q).cursor = (s.port q).cursor := by simp [State.waitingTest]
@[simp] theorem waitingTest_port_watermark : ((s.waitingTest p).port q).watermark = (s.port q).watermark := by simp [State.waitingTest]
@[simp] theorem waitingTest_port_view : ((s.waitingTest p).port q).view = (s.port q).view := by simp [State.waitingTest]
@[simp] theorem waitingTest_port_mask : ((s.waitingTest p).port q).mask = (s.port q).mask := by simp [State.waitingTest]
@[simp] theorem waitingTest_port_tickPoint : ((s.waitingTest p).port q).tickPoint = (s.port q).tickPoint := by simp [State.waitingTest]
@[simp] theorem waitingTest_port_tickPending : ((s.waitingTest p).port q).tickPending = (s.port q).tickPending := by simp [State.waitingTest]
@[simp] theorem waitingTest_port_list0 : ((s.waitingTest p).port q).list0 = (s.port q).list0 := by simp [State.waitingTest]
@[simp] theorem waitingTest_port_list1 : ((s.waitingTest p).port q).list1 = (s.port q).list1 := by simp [State.waitingTest]
@[simp] theorem waitingTest_port_slot : ((s.waitingTest p).port q).slot = (s.port q).slot := by simp [State.waitingTest]
@[simp] theorem waitingTest_port_store : ((s.waitingTest p).port q).store = (s.port q).store := by simp [State.waitingTest]
@[simp] theorem waitingTest_port_sent : ((s.waitingTest p).port q).sent = (s.port q).sent := by simp [State.waitingTest]

/-! ## enterTail -/

@[simp] theorem enterTail_pending : (s.enterTail).pending = s.pending := by rfl
@[simp] theorem enterTail_pins : (s.enterTail).pins = s.pins := by rfl
@[simp] theorem enterTail_search : (s.enterTail).search = s.search := by rfl
@[simp] theorem enterTail_tool0 : (s.enterTail).tool0 = s.tool0 := by rfl
@[simp] theorem enterTail_tool1 : (s.enterTail).tool1 = s.tool1 := by rfl
@[simp] theorem enterTail_ring : (s.enterTail).ring = s.ring := by rfl
@[simp] theorem enterTail_nextSeq : (s.enterTail).nextSeq = s.nextSeq := by rfl
@[simp] theorem enterTail_snap0 : (s.enterTail).snap0 = s.snap0 := by rfl
@[simp] theorem enterTail_snap1 : (s.enterTail).snap1 = s.snap1 := by rfl
@[simp] theorem enterTail_settings : (s.enterTail).settings = s.settings := by rfl
@[simp] theorem enterTail_waiting : (s.enterTail).waiting = s.waiting := by rfl
@[simp] theorem enterTail_epoch : (s.enterTail).epoch = s.epoch := by rfl
@[simp] theorem enterTail_control : (s.enterTail).control = s.control := by rfl
@[simp] theorem enterTail_portS : (s.enterTail).portS = s.portS := by rfl
@[simp] theorem enterTail_portD : (s.enterTail).portD = s.portD := by rfl
@[simp] theorem enterTail_keys : (s.enterTail).keys = s.keys := by rfl
@[simp] theorem enterTail_port : (s.enterTail).port q = s.port q := by cases q <;> simp [port_s, port_d]

/-! ## stopFrames -/

@[simp] theorem stopFrames_pending : (s.stopFrames).pending = s.pending := by rfl
@[simp] theorem stopFrames_pins : (s.stopFrames).pins = s.pins := by rfl
@[simp] theorem stopFrames_search : (s.stopFrames).search = s.search := by rfl
@[simp] theorem stopFrames_tool0 : (s.stopFrames).tool0 = s.tool0 := by rfl
@[simp] theorem stopFrames_tool1 : (s.stopFrames).tool1 = s.tool1 := by rfl
@[simp] theorem stopFrames_ring : (s.stopFrames).ring = s.ring := by rfl
@[simp] theorem stopFrames_nextSeq : (s.stopFrames).nextSeq = s.nextSeq := by rfl
@[simp] theorem stopFrames_snap0 : (s.stopFrames).snap0 = s.snap0 := by rfl
@[simp] theorem stopFrames_snap1 : (s.stopFrames).snap1 = s.snap1 := by rfl
@[simp] theorem stopFrames_settings : (s.stopFrames).settings = s.settings := by rfl
@[simp] theorem stopFrames_waiting : (s.stopFrames).waiting = s.waiting := by rfl
@[simp] theorem stopFrames_epoch : (s.stopFrames).epoch = s.epoch := by rfl
@[simp] theorem stopFrames_control : (s.stopFrames).control = s.control := by rfl
@[simp] theorem stopFrames_portS : (s.stopFrames).portS = s.portS := by rfl
@[simp] theorem stopFrames_portD : (s.stopFrames).portD = s.portD := by rfl
@[simp] theorem stopFrames_keys : (s.stopFrames).keys = s.keys := by rfl
@[simp] theorem stopFrames_port : (s.stopFrames).port q = s.port q := by cases q <;> simp [port_s, port_d]

/-! ## completeHold -/

@[simp] theorem completeHold_pending : (s.completeHold).pending = s.pending := by unfold State.completeHold; split <;> simp
@[simp] theorem completeHold_pins : (s.completeHold).pins = s.pins := by unfold State.completeHold; split <;> simp
@[simp] theorem completeHold_frame : (s.completeHold).frame = s.frame := by unfold State.completeHold; split <;> simp
@[simp] theorem completeHold_search : (s.completeHold).search = s.search := by unfold State.completeHold; split <;> simp
@[simp] theorem completeHold_tool0 : (s.completeHold).tool0 = s.tool0 := by unfold State.completeHold; split <;> simp
@[simp] theorem completeHold_tool1 : (s.completeHold).tool1 = s.tool1 := by unfold State.completeHold; split <;> simp
@[simp] theorem completeHold_ring : (s.completeHold).ring = s.ring := by unfold State.completeHold; split <;> simp
@[simp] theorem completeHold_nextSeq : (s.completeHold).nextSeq = s.nextSeq := by unfold State.completeHold; split <;> simp
@[simp] theorem completeHold_snap0 : (s.completeHold).snap0 = s.snap0 := by unfold State.completeHold; split <;> simp
@[simp] theorem completeHold_snap1 : (s.completeHold).snap1 = s.snap1 := by unfold State.completeHold; split <;> simp
@[simp] theorem completeHold_settings : (s.completeHold).settings = s.settings := by unfold State.completeHold; split <;> simp
@[simp] theorem completeHold_waiting : (s.completeHold).waiting = s.waiting := by unfold State.completeHold; split <;> simp
@[simp] theorem completeHold_epoch : (s.completeHold).epoch = s.epoch := by unfold State.completeHold; split <;> simp
@[simp] theorem completeHold_control : (s.completeHold).control = s.control := by unfold State.completeHold; split <;> simp
@[simp] theorem completeHold_keys : (s.completeHold).keys = s.keys := by unfold State.completeHold; split <;> simp
@[simp] theorem completeHold_port_cursor : ((s.completeHold).port q).cursor = (s.port q).cursor := by unfold State.completeHold; split <;> simp
@[simp] theorem completeHold_port_watermark : ((s.completeHold).port q).watermark = (s.port q).watermark := by unfold State.completeHold; split <;> simp
@[simp] theorem completeHold_port_view : ((s.completeHold).port q).view = (s.port q).view := by unfold State.completeHold; split <;> simp
@[simp] theorem completeHold_port_mask : ((s.completeHold).port q).mask = (s.port q).mask := by unfold State.completeHold; split <;> simp
@[simp] theorem completeHold_port_tickPoint : ((s.completeHold).port q).tickPoint = (s.port q).tickPoint := by unfold State.completeHold; split <;> simp
@[simp] theorem completeHold_port_tickPending : ((s.completeHold).port q).tickPending = (s.port q).tickPending := by unfold State.completeHold; split <;> simp
@[simp] theorem completeHold_port_list0 : ((s.completeHold).port q).list0 = (s.port q).list0 := by unfold State.completeHold; split <;> simp
@[simp] theorem completeHold_port_list1 : ((s.completeHold).port q).list1 = (s.port q).list1 := by unfold State.completeHold; split <;> simp
@[simp] theorem completeHold_port_store : ((s.completeHold).port q).store = (s.port q).store := by unfold State.completeHold; split <;> simp
@[simp] theorem completeHold_port_sent : ((s.completeHold).port q).sent = (s.port q).sent := by unfold State.completeHold; split <;> simp

/-! ## startAutoResume -/

@[simp] theorem startAutoResume_pending : (s.startAutoResume).pending = s.pending := by rfl
@[simp] theorem startAutoResume_pins : (s.startAutoResume).pins = s.pins := by rfl
@[simp] theorem startAutoResume_frame : (s.startAutoResume).frame = s.frame := by rfl
@[simp] theorem startAutoResume_search : (s.startAutoResume).search = s.search := by rfl
@[simp] theorem startAutoResume_tool0 : (s.startAutoResume).tool0 = s.tool0 := by rfl
@[simp] theorem startAutoResume_tool1 : (s.startAutoResume).tool1 = s.tool1 := by rfl
@[simp] theorem startAutoResume_ring : (s.startAutoResume).ring = s.ring := by rfl
@[simp] theorem startAutoResume_nextSeq : (s.startAutoResume).nextSeq = s.nextSeq := by rfl
@[simp] theorem startAutoResume_snap0 : (s.startAutoResume).snap0 = s.snap0 := by rfl
@[simp] theorem startAutoResume_snap1 : (s.startAutoResume).snap1 = s.snap1 := by rfl
@[simp] theorem startAutoResume_settings : (s.startAutoResume).settings = s.settings := by rfl
@[simp] theorem startAutoResume_waiting : (s.startAutoResume).waiting = s.waiting := by rfl
@[simp] theorem startAutoResume_epoch : (s.startAutoResume).epoch = s.epoch := by rfl
@[simp] theorem startAutoResume_portS : (s.startAutoResume).portS = s.portS := by rfl
@[simp] theorem startAutoResume_portD : (s.startAutoResume).portD = s.portD := by rfl
@[simp] theorem startAutoResume_keys : (s.startAutoResume).keys = s.keys := by rfl
@[simp] theorem startAutoResume_port : (s.startAutoResume).port q = s.port q := by cases q <;> simp [port_s, port_d]

/-! ## enterHeld -/

@[simp] theorem enterHeld_pending : (s.enterHeld).pending = s.pending := by simp [State.enterHeld]
@[simp] theorem enterHeld_pins : (s.enterHeld).pins = s.pins := by simp [State.enterHeld]
@[simp] theorem enterHeld_ring : (s.enterHeld).ring = s.ring := by simp [State.enterHeld]
@[simp] theorem enterHeld_nextSeq : (s.enterHeld).nextSeq = s.nextSeq := by simp [State.enterHeld]
@[simp] theorem enterHeld_snap0 : (s.enterHeld).snap0 = s.snap0 := by simp [State.enterHeld]
@[simp] theorem enterHeld_snap1 : (s.enterHeld).snap1 = s.snap1 := by simp [State.enterHeld]
@[simp] theorem enterHeld_port_cursor : ((s.enterHeld).port q).cursor = (s.port q).cursor := by simp [State.enterHeld]
@[simp] theorem enterHeld_port_watermark : ((s.enterHeld).port q).watermark = (s.port q).watermark := by simp [State.enterHeld]
@[simp] theorem enterHeld_port_view : ((s.enterHeld).port q).view = (s.port q).view := by simp [State.enterHeld]
@[simp] theorem enterHeld_port_mask : ((s.enterHeld).port q).mask = (s.port q).mask := by simp [State.enterHeld]
@[simp] theorem enterHeld_port_tickPoint : ((s.enterHeld).port q).tickPoint = (s.port q).tickPoint := by simp [State.enterHeld]
@[simp] theorem enterHeld_port_tickPending : ((s.enterHeld).port q).tickPending = (s.port q).tickPending := by simp [State.enterHeld]
@[simp] theorem enterHeld_port_list0 : ((s.enterHeld).port q).list0 = (s.port q).list0 := by simp [State.enterHeld]
@[simp] theorem enterHeld_port_list1 : ((s.enterHeld).port q).list1 = (s.port q).list1 := by simp [State.enterHeld]
@[simp] theorem enterHeld_port_store : ((s.enterHeld).port q).store = (s.port q).store := by simp [State.enterHeld]
@[simp] theorem enterHeld_port_sent : ((s.enterHeld).port q).sent = (s.port q).sent := by simp [State.enterHeld]

/-! ## storeSurvey -/

@[simp] theorem storeSurvey_pending : (s.storeSurvey x y).pending = s.pending := by rfl
@[simp] theorem storeSurvey_pins : (s.storeSurvey x y).pins = s.pins := by rfl
@[simp] theorem storeSurvey_frame : (s.storeSurvey x y).frame = s.frame := by rfl
@[simp] theorem storeSurvey_search : (s.storeSurvey x y).search = s.search := by rfl
@[simp] theorem storeSurvey_tool0 : (s.storeSurvey x y).tool0 = s.tool0 := by rfl
@[simp] theorem storeSurvey_tool1 : (s.storeSurvey x y).tool1 = s.tool1 := by rfl
@[simp] theorem storeSurvey_ring : (s.storeSurvey x y).ring = s.ring := by rfl
@[simp] theorem storeSurvey_nextSeq : (s.storeSurvey x y).nextSeq = s.nextSeq := by rfl
@[simp] theorem storeSurvey_snap0 : (s.storeSurvey x y).snap0 = s.snap0 := by rfl
@[simp] theorem storeSurvey_snap1 : (s.storeSurvey x y).snap1 = s.snap1 := by rfl
@[simp] theorem storeSurvey_settings : (s.storeSurvey x y).settings = s.settings := by rfl
@[simp] theorem storeSurvey_waiting : (s.storeSurvey x y).waiting = s.waiting := by rfl
@[simp] theorem storeSurvey_epoch : (s.storeSurvey x y).epoch = s.epoch := by rfl
@[simp] theorem storeSurvey_portS : (s.storeSurvey x y).portS = s.portS := by rfl
@[simp] theorem storeSurvey_portD : (s.storeSurvey x y).portD = s.portD := by rfl
@[simp] theorem storeSurvey_keys : (s.storeSurvey x y).keys = s.keys := by rfl
@[simp] theorem storeSurvey_port : (s.storeSurvey x y).port q = s.port q := by cases q <;> simp [port_s, port_d]

/-! ## endSurvey -/

@[simp] theorem endSurvey_pending : (s.endSurvey ow r).pending = s.pending := by simp [State.endSurvey]
@[simp] theorem endSurvey_pins : (s.endSurvey ow r).pins = s.pins := by simp [State.endSurvey]
@[simp] theorem endSurvey_frame : (s.endSurvey ow r).frame = s.frame := by simp [State.endSurvey]
@[simp] theorem endSurvey_search : (s.endSurvey ow r).search = s.search := by simp [State.endSurvey]
@[simp] theorem endSurvey_tool0 : (s.endSurvey ow r).tool0 = s.tool0 := by simp [State.endSurvey]
@[simp] theorem endSurvey_tool1 : (s.endSurvey ow r).tool1 = s.tool1 := by simp [State.endSurvey]
@[simp] theorem endSurvey_ring : (s.endSurvey ow r).ring = s.ring := by simp [State.endSurvey]
@[simp] theorem endSurvey_nextSeq : (s.endSurvey ow r).nextSeq = s.nextSeq := by simp [State.endSurvey]
@[simp] theorem endSurvey_snap0 : (s.endSurvey ow r).snap0 = s.snap0 := by simp [State.endSurvey]
@[simp] theorem endSurvey_snap1 : (s.endSurvey ow r).snap1 = s.snap1 := by simp [State.endSurvey]
@[simp] theorem endSurvey_settings : (s.endSurvey ow r).settings = s.settings := by simp [State.endSurvey]
@[simp] theorem endSurvey_waiting : (s.endSurvey ow r).waiting = s.waiting := by simp [State.endSurvey]
@[simp] theorem endSurvey_epoch : (s.endSurvey ow r).epoch = s.epoch := by simp [State.endSurvey]
@[simp] theorem endSurvey_keys : (s.endSurvey ow r).keys = s.keys := by simp [State.endSurvey]
@[simp] theorem endSurvey_port_cursor : ((s.endSurvey ow r).port q).cursor = (s.port q).cursor := by simp [State.endSurvey]
@[simp] theorem endSurvey_port_watermark : ((s.endSurvey ow r).port q).watermark = (s.port q).watermark := by simp [State.endSurvey]
@[simp] theorem endSurvey_port_view : ((s.endSurvey ow r).port q).view = (s.port q).view := by simp [State.endSurvey]
@[simp] theorem endSurvey_port_mask : ((s.endSurvey ow r).port q).mask = (s.port q).mask := by simp [State.endSurvey]
@[simp] theorem endSurvey_port_tickPoint : ((s.endSurvey ow r).port q).tickPoint = (s.port q).tickPoint := by simp [State.endSurvey]
@[simp] theorem endSurvey_port_tickPending : ((s.endSurvey ow r).port q).tickPending = (s.port q).tickPending := by simp [State.endSurvey]
@[simp] theorem endSurvey_port_list0 : ((s.endSurvey ow r).port q).list0 = (s.port q).list0 := by simp [State.endSurvey]
@[simp] theorem endSurvey_port_list1 : ((s.endSurvey ow r).port q).list1 = (s.port q).list1 := by simp [State.endSurvey]
@[simp] theorem endSurvey_port_store : ((s.endSurvey ow r).port q).store = (s.port q).store := by simp [State.endSurvey]
@[simp] theorem endSurvey_port_sent : ((s.endSurvey ow r).port q).sent = (s.port q).sent := by simp [State.endSurvey]

/-! ## surveyFrameEnd -/

@[simp] theorem surveyFrameEnd_pending : (s.surveyFrameEnd).pending = s.pending := by unfold State.surveyFrameEnd; split <;> (try split) <;> (try split) <;> simp
@[simp] theorem surveyFrameEnd_pins : (s.surveyFrameEnd).pins = s.pins := by unfold State.surveyFrameEnd; split <;> (try split) <;> (try split) <;> simp
@[simp] theorem surveyFrameEnd_frame : (s.surveyFrameEnd).frame = s.frame := by unfold State.surveyFrameEnd; split <;> (try split) <;> (try split) <;> simp
@[simp] theorem surveyFrameEnd_search : (s.surveyFrameEnd).search = s.search := by unfold State.surveyFrameEnd; split <;> (try split) <;> (try split) <;> simp
@[simp] theorem surveyFrameEnd_tool0 : (s.surveyFrameEnd).tool0 = s.tool0 := by unfold State.surveyFrameEnd; split <;> (try split) <;> (try split) <;> simp
@[simp] theorem surveyFrameEnd_tool1 : (s.surveyFrameEnd).tool1 = s.tool1 := by unfold State.surveyFrameEnd; split <;> (try split) <;> (try split) <;> simp
@[simp] theorem surveyFrameEnd_ring : (s.surveyFrameEnd).ring = s.ring := by unfold State.surveyFrameEnd; split <;> (try split) <;> (try split) <;> simp
@[simp] theorem surveyFrameEnd_nextSeq : (s.surveyFrameEnd).nextSeq = s.nextSeq := by unfold State.surveyFrameEnd; split <;> (try split) <;> (try split) <;> simp
@[simp] theorem surveyFrameEnd_snap0 : (s.surveyFrameEnd).snap0 = s.snap0 := by unfold State.surveyFrameEnd; split <;> (try split) <;> (try split) <;> simp
@[simp] theorem surveyFrameEnd_snap1 : (s.surveyFrameEnd).snap1 = s.snap1 := by unfold State.surveyFrameEnd; split <;> (try split) <;> (try split) <;> simp
@[simp] theorem surveyFrameEnd_settings : (s.surveyFrameEnd).settings = s.settings := by unfold State.surveyFrameEnd; split <;> (try split) <;> (try split) <;> simp
@[simp] theorem surveyFrameEnd_waiting : (s.surveyFrameEnd).waiting = s.waiting := by unfold State.surveyFrameEnd; split <;> (try split) <;> (try split) <;> simp
@[simp] theorem surveyFrameEnd_epoch : (s.surveyFrameEnd).epoch = s.epoch := by unfold State.surveyFrameEnd; split <;> (try split) <;> (try split) <;> simp
@[simp] theorem surveyFrameEnd_keys : (s.surveyFrameEnd).keys = s.keys := by unfold State.surveyFrameEnd; split <;> (try split) <;> (try split) <;> simp
@[simp] theorem surveyFrameEnd_port_cursor : ((s.surveyFrameEnd).port q).cursor = (s.port q).cursor := by unfold State.surveyFrameEnd; split <;> (try split) <;> (try split) <;> simp
@[simp] theorem surveyFrameEnd_port_watermark : ((s.surveyFrameEnd).port q).watermark = (s.port q).watermark := by unfold State.surveyFrameEnd; split <;> (try split) <;> (try split) <;> simp
@[simp] theorem surveyFrameEnd_port_view : ((s.surveyFrameEnd).port q).view = (s.port q).view := by unfold State.surveyFrameEnd; split <;> (try split) <;> (try split) <;> simp
@[simp] theorem surveyFrameEnd_port_mask : ((s.surveyFrameEnd).port q).mask = (s.port q).mask := by unfold State.surveyFrameEnd; split <;> (try split) <;> (try split) <;> simp
@[simp] theorem surveyFrameEnd_port_tickPoint : ((s.surveyFrameEnd).port q).tickPoint = (s.port q).tickPoint := by unfold State.surveyFrameEnd; split <;> (try split) <;> (try split) <;> simp
@[simp] theorem surveyFrameEnd_port_tickPending : ((s.surveyFrameEnd).port q).tickPending = (s.port q).tickPending := by unfold State.surveyFrameEnd; split <;> (try split) <;> (try split) <;> simp
@[simp] theorem surveyFrameEnd_port_list0 : ((s.surveyFrameEnd).port q).list0 = (s.port q).list0 := by unfold State.surveyFrameEnd; split <;> (try split) <;> (try split) <;> simp
@[simp] theorem surveyFrameEnd_port_list1 : ((s.surveyFrameEnd).port q).list1 = (s.port q).list1 := by unfold State.surveyFrameEnd; split <;> (try split) <;> (try split) <;> simp
@[simp] theorem surveyFrameEnd_port_store : ((s.surveyFrameEnd).port q).store = (s.port q).store := by unfold State.surveyFrameEnd; split <;> (try split) <;> (try split) <;> simp
@[simp] theorem surveyFrameEnd_port_sent : ((s.surveyFrameEnd).port q).sent = (s.port q).sent := by unfold State.surveyFrameEnd; split <;> (try split) <;> (try split) <;> simp

/-! ## sweepResult -/

@[simp] theorem sweepResult_pending : (s.sweepResult b bank).pending = s.pending := by unfold State.sweepResult; dsimp only; split <;> rfl
@[simp] theorem sweepResult_pins : (s.sweepResult b bank).pins = s.pins := by unfold State.sweepResult; dsimp only; split <;> rfl
@[simp] theorem sweepResult_frame : (s.sweepResult b bank).frame = s.frame := by unfold State.sweepResult; dsimp only; split <;> rfl
@[simp] theorem sweepResult_tool0 : (s.sweepResult b bank).tool0 = s.tool0 := by unfold State.sweepResult; dsimp only; split <;> rfl
@[simp] theorem sweepResult_tool1 : (s.sweepResult b bank).tool1 = s.tool1 := by unfold State.sweepResult; dsimp only; split <;> rfl
@[simp] theorem sweepResult_ring : (s.sweepResult b bank).ring = s.ring := by unfold State.sweepResult; dsimp only; split <;> rfl
@[simp] theorem sweepResult_nextSeq : (s.sweepResult b bank).nextSeq = s.nextSeq := by unfold State.sweepResult; dsimp only; split <;> rfl
@[simp] theorem sweepResult_snap0 : (s.sweepResult b bank).snap0 = s.snap0 := by unfold State.sweepResult; dsimp only; split <;> rfl
@[simp] theorem sweepResult_snap1 : (s.sweepResult b bank).snap1 = s.snap1 := by unfold State.sweepResult; dsimp only; split <;> rfl
@[simp] theorem sweepResult_settings : (s.sweepResult b bank).settings = s.settings := by unfold State.sweepResult; dsimp only; split <;> rfl
@[simp] theorem sweepResult_waiting : (s.sweepResult b bank).waiting = s.waiting := by unfold State.sweepResult; dsimp only; split <;> rfl
@[simp] theorem sweepResult_epoch : (s.sweepResult b bank).epoch = s.epoch := by unfold State.sweepResult; dsimp only; split <;> rfl
@[simp] theorem sweepResult_control : (s.sweepResult b bank).control = s.control := by unfold State.sweepResult; dsimp only; split <;> rfl
@[simp] theorem sweepResult_portS : (s.sweepResult b bank).portS = s.portS := by unfold State.sweepResult; dsimp only; split <;> rfl
@[simp] theorem sweepResult_portD : (s.sweepResult b bank).portD = s.portD := by unfold State.sweepResult; dsimp only; split <;> rfl
@[simp] theorem sweepResult_keys : (s.sweepResult b bank).keys = s.keys := by unfold State.sweepResult; dsimp only; split <;> rfl
@[simp] theorem sweepResult_port : (s.sweepResult b bank).port q = s.port q := by cases q <;> simp [port_s, port_d]

/-! ## place -/

@[simp] theorem place_pending : (s.place cur).pending = s.pending := by
  unfold State.place; repeat' split
  all_goals simp
@[simp] theorem place_pins : (s.place cur).pins = s.pins := by
  unfold State.place; repeat' split
  all_goals simp
@[simp] theorem place_frame : (s.place cur).frame = s.frame := by
  unfold State.place; repeat' split
  all_goals simp
@[simp] theorem place_search : (s.place cur).search = s.search := by
  unfold State.place; repeat' split
  all_goals simp
@[simp] theorem place_ring : (s.place cur).ring = s.ring := by
  unfold State.place; repeat' split
  all_goals simp
@[simp] theorem place_nextSeq : (s.place cur).nextSeq = s.nextSeq := by
  unfold State.place; repeat' split
  all_goals simp
@[simp] theorem place_snap0 : (s.place cur).snap0 = s.snap0 := by
  unfold State.place; repeat' split
  all_goals simp
@[simp] theorem place_snap1 : (s.place cur).snap1 = s.snap1 := by
  unfold State.place; repeat' split
  all_goals simp
@[simp] theorem place_settings : (s.place cur).settings = s.settings := by
  unfold State.place; repeat' split
  all_goals simp
@[simp] theorem place_waiting : (s.place cur).waiting = s.waiting := by
  unfold State.place; repeat' split
  all_goals simp
@[simp] theorem place_epoch : (s.place cur).epoch = s.epoch := by
  unfold State.place; repeat' split
  all_goals simp
@[simp] theorem place_control : (s.place cur).control = s.control := by
  unfold State.place; repeat' split
  all_goals simp
@[simp] theorem place_portS : (s.place cur).portS = s.portS := by
  unfold State.place; repeat' split
  all_goals simp
@[simp] theorem place_portD : (s.place cur).portD = s.portD := by
  unfold State.place; repeat' split
  all_goals simp
@[simp] theorem place_keys : (s.place cur).keys = s.keys := by
  unfold State.place; repeat' split
  all_goals simp
@[simp] theorem place_port : (s.place cur).port q = s.port q := by cases q <;> simp [port_s, port_d]

/-! ## locateResult -/

@[simp] theorem locateResult_pending : (s.locateResult b bank).pending = s.pending := by unfold State.locateResult; dsimp only; split <;> simp
@[simp] theorem locateResult_pins : (s.locateResult b bank).pins = s.pins := by unfold State.locateResult; dsimp only; split <;> simp
@[simp] theorem locateResult_frame : (s.locateResult b bank).frame = s.frame := by unfold State.locateResult; dsimp only; split <;> simp
@[simp] theorem locateResult_ring : (s.locateResult b bank).ring = s.ring := by unfold State.locateResult; dsimp only; split <;> simp
@[simp] theorem locateResult_nextSeq : (s.locateResult b bank).nextSeq = s.nextSeq := by unfold State.locateResult; dsimp only; split <;> simp
@[simp] theorem locateResult_snap0 : (s.locateResult b bank).snap0 = s.snap0 := by unfold State.locateResult; dsimp only; split <;> simp
@[simp] theorem locateResult_snap1 : (s.locateResult b bank).snap1 = s.snap1 := by unfold State.locateResult; dsimp only; split <;> simp
@[simp] theorem locateResult_settings : (s.locateResult b bank).settings = s.settings := by unfold State.locateResult; dsimp only; split <;> simp
@[simp] theorem locateResult_waiting : (s.locateResult b bank).waiting = s.waiting := by unfold State.locateResult; dsimp only; split <;> simp
@[simp] theorem locateResult_epoch : (s.locateResult b bank).epoch = s.epoch := by unfold State.locateResult; dsimp only; split <;> simp
@[simp] theorem locateResult_control : (s.locateResult b bank).control = s.control := by unfold State.locateResult; dsimp only; split <;> simp
@[simp] theorem locateResult_portS : (s.locateResult b bank).portS = s.portS := by unfold State.locateResult; dsimp only; split <;> simp
@[simp] theorem locateResult_portD : (s.locateResult b bank).portD = s.portD := by unfold State.locateResult; dsimp only; split <;> simp
@[simp] theorem locateResult_keys : (s.locateResult b bank).keys = s.keys := by unfold State.locateResult; dsimp only; split <;> simp
@[simp] theorem locateResult_port : (s.locateResult b bank).port q = s.port q := by cases q <;> simp [port_s, port_d]

/-! ## noiseResult -/

@[simp] theorem noiseResult_pending : (s.noiseResult ax b bank).pending = s.pending := by rfl
@[simp] theorem noiseResult_pins : (s.noiseResult ax b bank).pins = s.pins := by rfl
@[simp] theorem noiseResult_search : (s.noiseResult ax b bank).search = s.search := by rfl
@[simp] theorem noiseResult_tool0 : (s.noiseResult ax b bank).tool0 = s.tool0 := by rfl
@[simp] theorem noiseResult_tool1 : (s.noiseResult ax b bank).tool1 = s.tool1 := by rfl
@[simp] theorem noiseResult_ring : (s.noiseResult ax b bank).ring = s.ring := by rfl
@[simp] theorem noiseResult_nextSeq : (s.noiseResult ax b bank).nextSeq = s.nextSeq := by rfl
@[simp] theorem noiseResult_snap0 : (s.noiseResult ax b bank).snap0 = s.snap0 := by rfl
@[simp] theorem noiseResult_snap1 : (s.noiseResult ax b bank).snap1 = s.snap1 := by rfl
@[simp] theorem noiseResult_settings : (s.noiseResult ax b bank).settings = s.settings := by rfl
@[simp] theorem noiseResult_waiting : (s.noiseResult ax b bank).waiting = s.waiting := by rfl
@[simp] theorem noiseResult_epoch : (s.noiseResult ax b bank).epoch = s.epoch := by rfl
@[simp] theorem noiseResult_control : (s.noiseResult ax b bank).control = s.control := by rfl
@[simp] theorem noiseResult_portS : (s.noiseResult ax b bank).portS = s.portS := by rfl
@[simp] theorem noiseResult_portD : (s.noiseResult ax b bank).portD = s.portD := by rfl
@[simp] theorem noiseResult_keys : (s.noiseResult ax b bank).keys = s.keys := by rfl
@[simp] theorem noiseResult_port : (s.noiseResult ax b bank).port q = s.port q := by cases q <;> simp [port_s, port_d]

/-! ## handOn -/

@[simp] theorem handOn_pending : (s.handOn j rd).pending = s.pending := by
  unfold State.handOn; repeat' split
  all_goals simp
@[simp] theorem handOn_pins : (s.handOn j rd).pins = s.pins := by
  unfold State.handOn; repeat' split
  all_goals simp
@[simp] theorem handOn_ring : (s.handOn j rd).ring = s.ring := by
  unfold State.handOn; repeat' split
  all_goals simp
@[simp] theorem handOn_nextSeq : (s.handOn j rd).nextSeq = s.nextSeq := by
  unfold State.handOn; repeat' split
  all_goals simp
@[simp] theorem handOn_snap0 : (s.handOn j rd).snap0 = s.snap0 := by
  unfold State.handOn; repeat' split
  all_goals simp
@[simp] theorem handOn_snap1 : (s.handOn j rd).snap1 = s.snap1 := by
  unfold State.handOn; repeat' split
  all_goals simp
@[simp] theorem handOn_settings : (s.handOn j rd).settings = s.settings := by
  unfold State.handOn; repeat' split
  all_goals simp
@[simp] theorem handOn_waiting : (s.handOn j rd).waiting = s.waiting := by
  unfold State.handOn; repeat' split
  all_goals simp
@[simp] theorem handOn_epoch : (s.handOn j rd).epoch = s.epoch := by
  unfold State.handOn; repeat' split
  all_goals simp
@[simp] theorem handOn_portS : (s.handOn j rd).portS = s.portS := by
  unfold State.handOn; repeat' split
  all_goals simp
@[simp] theorem handOn_portD : (s.handOn j rd).portD = s.portD := by
  unfold State.handOn; repeat' split
  all_goals simp
@[simp] theorem handOn_keys : (s.handOn j rd).keys = s.keys := by
  unfold State.handOn; repeat' split
  all_goals simp
@[simp] theorem handOn_port : (s.handOn j rd).port q = s.port q := by cases q <;> simp [port_s, port_d]

/-! ## syncTaken -/

@[simp] theorem syncTaken_pending : (s.syncTaken).pending = s.pending := by simp [State.syncTaken]
@[simp] theorem syncTaken_pins : (s.syncTaken).pins = s.pins := by simp [State.syncTaken]
@[simp] theorem syncTaken_search : (s.syncTaken).search = s.search := by simp [State.syncTaken]
@[simp] theorem syncTaken_tool0 : (s.syncTaken).tool0 = s.tool0 := by simp [State.syncTaken]
@[simp] theorem syncTaken_tool1 : (s.syncTaken).tool1 = s.tool1 := by simp [State.syncTaken]
@[simp] theorem syncTaken_ring : (s.syncTaken).ring = s.ring := by simp [State.syncTaken]
@[simp] theorem syncTaken_nextSeq : (s.syncTaken).nextSeq = s.nextSeq := by simp [State.syncTaken]
@[simp] theorem syncTaken_snap0 : (s.syncTaken).snap0 = s.snap0 := by simp [State.syncTaken]
@[simp] theorem syncTaken_snap1 : (s.syncTaken).snap1 = s.snap1 := by simp [State.syncTaken]
@[simp] theorem syncTaken_settings : (s.syncTaken).settings = s.settings := by simp [State.syncTaken]
@[simp] theorem syncTaken_waiting : (s.syncTaken).waiting = s.waiting := by simp [State.syncTaken]
@[simp] theorem syncTaken_epoch : (s.syncTaken).epoch = s.epoch := by simp [State.syncTaken]
@[simp] theorem syncTaken_control : (s.syncTaken).control = s.control := by simp [State.syncTaken]
@[simp] theorem syncTaken_keys : (s.syncTaken).keys = s.keys := by simp [State.syncTaken]
@[simp] theorem syncTaken_port_cursor : ((s.syncTaken).port q).cursor = (s.port q).cursor := by simp [State.syncTaken]
@[simp] theorem syncTaken_port_watermark : ((s.syncTaken).port q).watermark = (s.port q).watermark := by simp [State.syncTaken]
@[simp] theorem syncTaken_port_view : ((s.syncTaken).port q).view = (s.port q).view := by simp [State.syncTaken]
@[simp] theorem syncTaken_port_mask : ((s.syncTaken).port q).mask = (s.port q).mask := by simp [State.syncTaken]
@[simp] theorem syncTaken_port_tickPoint : ((s.syncTaken).port q).tickPoint = (s.port q).tickPoint := by simp [State.syncTaken]
@[simp] theorem syncTaken_port_tickPending : ((s.syncTaken).port q).tickPending = (s.port q).tickPending := by simp [State.syncTaken]
@[simp] theorem syncTaken_port_list0 : ((s.syncTaken).port q).list0 = (s.port q).list0 := by simp [State.syncTaken]
@[simp] theorem syncTaken_port_list1 : ((s.syncTaken).port q).list1 = (s.port q).list1 := by simp [State.syncTaken]
@[simp] theorem syncTaken_port_slot : ((s.syncTaken).port q).slot = (s.port q).slot := by simp [State.syncTaken]
@[simp] theorem syncTaken_port_store : ((s.syncTaken).port q).store = (s.port q).store := by simp [State.syncTaken]
@[simp] theorem syncTaken_port_sent : ((s.syncTaken).port q).sent = (s.port q).sent := by simp [State.syncTaken]

/-! ## moveStart -/

@[simp] theorem moveStart_pending : (s.moveStart).pending = s.pending := by rfl
@[simp] theorem moveStart_pins : (s.moveStart).pins = s.pins := by rfl
@[simp] theorem moveStart_search : (s.moveStart).search = s.search := by rfl
@[simp] theorem moveStart_tool0 : (s.moveStart).tool0 = s.tool0 := by rfl
@[simp] theorem moveStart_tool1 : (s.moveStart).tool1 = s.tool1 := by rfl
@[simp] theorem moveStart_ring : (s.moveStart).ring = s.ring := by rfl
@[simp] theorem moveStart_nextSeq : (s.moveStart).nextSeq = s.nextSeq := by rfl
@[simp] theorem moveStart_snap0 : (s.moveStart).snap0 = s.snap0 := by rfl
@[simp] theorem moveStart_snap1 : (s.moveStart).snap1 = s.snap1 := by rfl
@[simp] theorem moveStart_settings : (s.moveStart).settings = s.settings := by rfl
@[simp] theorem moveStart_waiting : (s.moveStart).waiting = s.waiting := by rfl
@[simp] theorem moveStart_epoch : (s.moveStart).epoch = s.epoch := by rfl
@[simp] theorem moveStart_control : (s.moveStart).control = s.control := by rfl
@[simp] theorem moveStart_portS : (s.moveStart).portS = s.portS := by rfl
@[simp] theorem moveStart_portD : (s.moveStart).portD = s.portD := by rfl
@[simp] theorem moveStart_keys : (s.moveStart).keys = s.keys := by rfl
@[simp] theorem moveStart_port : (s.moveStart).port q = s.port q := by cases q <;> simp [port_s, port_d]

/-! ## dropPlanOf -/

@[simp] theorem dropPlanOf_pending : (s.dropPlanOf p).pending = s.pending := by unfold State.dropPlanOf; split <;> rfl
@[simp] theorem dropPlanOf_pins : (s.dropPlanOf p).pins = s.pins := by unfold State.dropPlanOf; split <;> rfl
@[simp] theorem dropPlanOf_search : (s.dropPlanOf p).search = s.search := by unfold State.dropPlanOf; split <;> rfl
@[simp] theorem dropPlanOf_tool0 : (s.dropPlanOf p).tool0 = s.tool0 := by unfold State.dropPlanOf; split <;> rfl
@[simp] theorem dropPlanOf_tool1 : (s.dropPlanOf p).tool1 = s.tool1 := by unfold State.dropPlanOf; split <;> rfl
@[simp] theorem dropPlanOf_ring : (s.dropPlanOf p).ring = s.ring := by unfold State.dropPlanOf; split <;> rfl
@[simp] theorem dropPlanOf_nextSeq : (s.dropPlanOf p).nextSeq = s.nextSeq := by unfold State.dropPlanOf; split <;> rfl
@[simp] theorem dropPlanOf_snap0 : (s.dropPlanOf p).snap0 = s.snap0 := by unfold State.dropPlanOf; split <;> rfl
@[simp] theorem dropPlanOf_snap1 : (s.dropPlanOf p).snap1 = s.snap1 := by unfold State.dropPlanOf; split <;> rfl
@[simp] theorem dropPlanOf_settings : (s.dropPlanOf p).settings = s.settings := by unfold State.dropPlanOf; split <;> rfl
@[simp] theorem dropPlanOf_waiting : (s.dropPlanOf p).waiting = s.waiting := by unfold State.dropPlanOf; split <;> rfl
@[simp] theorem dropPlanOf_epoch : (s.dropPlanOf p).epoch = s.epoch := by unfold State.dropPlanOf; split <;> rfl
@[simp] theorem dropPlanOf_control : (s.dropPlanOf p).control = s.control := by unfold State.dropPlanOf; split <;> rfl
@[simp] theorem dropPlanOf_portS : (s.dropPlanOf p).portS = s.portS := by unfold State.dropPlanOf; split <;> rfl
@[simp] theorem dropPlanOf_portD : (s.dropPlanOf p).portD = s.portD := by unfold State.dropPlanOf; split <;> rfl
@[simp] theorem dropPlanOf_keys : (s.dropPlanOf p).keys = s.keys := by unfold State.dropPlanOf; split <;> rfl
@[simp] theorem dropPlanOf_port : (s.dropPlanOf p).port q = s.port q := by cases q <;> simp [port_s, port_d]

/-! ## dropReservation -/

@[simp] theorem dropReservation_pending : (s.dropReservation).pending = s.pending := by rfl
@[simp] theorem dropReservation_pins : (s.dropReservation).pins = s.pins := by rfl
@[simp] theorem dropReservation_frame : (s.dropReservation).frame = s.frame := by rfl
@[simp] theorem dropReservation_search : (s.dropReservation).search = s.search := by rfl
@[simp] theorem dropReservation_tool0 : (s.dropReservation).tool0 = s.tool0 := by rfl
@[simp] theorem dropReservation_tool1 : (s.dropReservation).tool1 = s.tool1 := by rfl
@[simp] theorem dropReservation_ring : (s.dropReservation).ring = s.ring := by rfl
@[simp] theorem dropReservation_nextSeq : (s.dropReservation).nextSeq = s.nextSeq := by rfl
@[simp] theorem dropReservation_snap0 : (s.dropReservation).snap0 = s.snap0 := by rfl
@[simp] theorem dropReservation_snap1 : (s.dropReservation).snap1 = s.snap1 := by rfl
@[simp] theorem dropReservation_settings : (s.dropReservation).settings = s.settings := by rfl
@[simp] theorem dropReservation_waiting : (s.dropReservation).waiting = s.waiting := by rfl
@[simp] theorem dropReservation_epoch : (s.dropReservation).epoch = s.epoch := by rfl
@[simp] theorem dropReservation_portS : (s.dropReservation).portS = s.portS := by rfl
@[simp] theorem dropReservation_portD : (s.dropReservation).portD = s.portD := by rfl
@[simp] theorem dropReservation_keys : (s.dropReservation).keys = s.keys := by rfl
@[simp] theorem dropReservation_port : (s.dropReservation).port q = s.port q := by cases q <;> simp [port_s, port_d]

/-! ## dropReservationOf -/

@[simp] theorem dropReservationOf_pending : (s.dropReservationOf p).pending = s.pending := by unfold State.dropReservationOf; split <;> rfl
@[simp] theorem dropReservationOf_pins : (s.dropReservationOf p).pins = s.pins := by unfold State.dropReservationOf; split <;> rfl
@[simp] theorem dropReservationOf_frame : (s.dropReservationOf p).frame = s.frame := by unfold State.dropReservationOf; split <;> rfl
@[simp] theorem dropReservationOf_search : (s.dropReservationOf p).search = s.search := by unfold State.dropReservationOf; split <;> rfl
@[simp] theorem dropReservationOf_tool0 : (s.dropReservationOf p).tool0 = s.tool0 := by unfold State.dropReservationOf; split <;> rfl
@[simp] theorem dropReservationOf_tool1 : (s.dropReservationOf p).tool1 = s.tool1 := by unfold State.dropReservationOf; split <;> rfl
@[simp] theorem dropReservationOf_ring : (s.dropReservationOf p).ring = s.ring := by unfold State.dropReservationOf; split <;> rfl
@[simp] theorem dropReservationOf_nextSeq : (s.dropReservationOf p).nextSeq = s.nextSeq := by unfold State.dropReservationOf; split <;> rfl
@[simp] theorem dropReservationOf_snap0 : (s.dropReservationOf p).snap0 = s.snap0 := by unfold State.dropReservationOf; split <;> rfl
@[simp] theorem dropReservationOf_snap1 : (s.dropReservationOf p).snap1 = s.snap1 := by unfold State.dropReservationOf; split <;> rfl
@[simp] theorem dropReservationOf_settings : (s.dropReservationOf p).settings = s.settings := by unfold State.dropReservationOf; split <;> rfl
@[simp] theorem dropReservationOf_waiting : (s.dropReservationOf p).waiting = s.waiting := by unfold State.dropReservationOf; split <;> rfl
@[simp] theorem dropReservationOf_epoch : (s.dropReservationOf p).epoch = s.epoch := by unfold State.dropReservationOf; split <;> rfl
@[simp] theorem dropReservationOf_portS : (s.dropReservationOf p).portS = s.portS := by unfold State.dropReservationOf; split <;> rfl
@[simp] theorem dropReservationOf_portD : (s.dropReservationOf p).portD = s.portD := by unfold State.dropReservationOf; split <;> rfl
@[simp] theorem dropReservationOf_keys : (s.dropReservationOf p).keys = s.keys := by unfold State.dropReservationOf; split <;> rfl
@[simp] theorem dropReservationOf_port : (s.dropReservationOf p).port q = s.port q := by cases q <;> simp [port_s, port_d]

/-! ## undoTask -/

@[simp] theorem undoTask_pending : (s.undoTask p tk).pending = s.pending := by
  unfold State.undoTask; repeat' split
  all_goals simp
@[simp] theorem undoTask_pins : (s.undoTask p tk).pins = s.pins := by
  unfold State.undoTask; repeat' split
  all_goals simp
@[simp] theorem undoTask_search : (s.undoTask p tk).search = s.search := by
  unfold State.undoTask; repeat' split
  all_goals simp
@[simp] theorem undoTask_tool0 : (s.undoTask p tk).tool0 = s.tool0 := by
  unfold State.undoTask; repeat' split
  all_goals simp
@[simp] theorem undoTask_tool1 : (s.undoTask p tk).tool1 = s.tool1 := by
  unfold State.undoTask; repeat' split
  all_goals simp
@[simp] theorem undoTask_ring : (s.undoTask p tk).ring = s.ring := by
  unfold State.undoTask; repeat' split
  all_goals simp
@[simp] theorem undoTask_nextSeq : (s.undoTask p tk).nextSeq = s.nextSeq := by
  unfold State.undoTask; repeat' split
  all_goals simp
@[simp] theorem undoTask_snap0 : (s.undoTask p tk).snap0 = s.snap0 := by
  unfold State.undoTask; repeat' split
  all_goals simp
@[simp] theorem undoTask_snap1 : (s.undoTask p tk).snap1 = s.snap1 := by
  unfold State.undoTask; repeat' split
  all_goals simp
@[simp] theorem undoTask_settings : (s.undoTask p tk).settings = s.settings := by
  unfold State.undoTask; repeat' split
  all_goals simp
@[simp] theorem undoTask_waiting : (s.undoTask p tk).waiting = s.waiting := by
  unfold State.undoTask; repeat' split
  all_goals simp
@[simp] theorem undoTask_epoch : (s.undoTask p tk).epoch = s.epoch := by
  unfold State.undoTask; repeat' split
  all_goals simp
@[simp] theorem undoTask_keys : (s.undoTask p tk).keys = s.keys := by
  unfold State.undoTask; repeat' split
  all_goals simp
@[simp] theorem undoTask_port_cursor : ((s.undoTask p tk).port q).cursor = (s.port q).cursor := by
  unfold State.undoTask; repeat' split
  all_goals simp
@[simp] theorem undoTask_port_watermark : ((s.undoTask p tk).port q).watermark = (s.port q).watermark := by
  unfold State.undoTask; repeat' split
  all_goals simp
@[simp] theorem undoTask_port_view : ((s.undoTask p tk).port q).view = (s.port q).view := by
  unfold State.undoTask; repeat' split
  all_goals simp
@[simp] theorem undoTask_port_mask : ((s.undoTask p tk).port q).mask = (s.port q).mask := by
  unfold State.undoTask; repeat' split
  all_goals simp
@[simp] theorem undoTask_port_tickPoint : ((s.undoTask p tk).port q).tickPoint = (s.port q).tickPoint := by
  unfold State.undoTask; repeat' split
  all_goals simp
@[simp] theorem undoTask_port_tickPending : ((s.undoTask p tk).port q).tickPending = (s.port q).tickPending := by
  unfold State.undoTask; repeat' split
  all_goals simp
@[simp] theorem undoTask_port_list0 : ((s.undoTask p tk).port q).list0 = (s.port q).list0 := by
  unfold State.undoTask; repeat' split
  all_goals simp
@[simp] theorem undoTask_port_list1 : ((s.undoTask p tk).port q).list1 = (s.port q).list1 := by
  unfold State.undoTask; repeat' split
  all_goals simp
@[simp] theorem undoTask_port_slot : ((s.undoTask p tk).port q).slot = (s.port q).slot := by
  unfold State.undoTask; repeat' split
  all_goals simp
@[simp] theorem undoTask_port_store : ((s.undoTask p tk).port q).store = (s.port q).store := by
  unfold State.undoTask; repeat' split
  all_goals simp
@[simp] theorem undoTask_port_sent : ((s.undoTask p tk).port q).sent = (s.port q).sent := by
  unfold State.undoTask; repeat' split
  all_goals simp

/-! ## supersede -/

@[simp] theorem supersede_pending : (s.supersede).pending = s.pending := by unfold State.supersede; split <;> simp
@[simp] theorem supersede_pins : (s.supersede).pins = s.pins := by unfold State.supersede; split <;> simp
@[simp] theorem supersede_frame : (s.supersede).frame = s.frame := by unfold State.supersede; split <;> simp
@[simp] theorem supersede_search : (s.supersede).search = s.search := by unfold State.supersede; split <;> simp
@[simp] theorem supersede_tool0 : (s.supersede).tool0 = s.tool0 := by unfold State.supersede; split <;> simp
@[simp] theorem supersede_tool1 : (s.supersede).tool1 = s.tool1 := by unfold State.supersede; split <;> simp
@[simp] theorem supersede_ring : (s.supersede).ring = s.ring := by unfold State.supersede; split <;> simp
@[simp] theorem supersede_nextSeq : (s.supersede).nextSeq = s.nextSeq := by unfold State.supersede; split <;> simp
@[simp] theorem supersede_snap0 : (s.supersede).snap0 = s.snap0 := by unfold State.supersede; split <;> simp
@[simp] theorem supersede_snap1 : (s.supersede).snap1 = s.snap1 := by unfold State.supersede; split <;> simp
@[simp] theorem supersede_settings : (s.supersede).settings = s.settings := by unfold State.supersede; split <;> simp
@[simp] theorem supersede_waiting : (s.supersede).waiting = s.waiting := by unfold State.supersede; split <;> simp
@[simp] theorem supersede_epoch : (s.supersede).epoch = s.epoch := by unfold State.supersede; split <;> simp
@[simp] theorem supersede_control : (s.supersede).control = s.control := by unfold State.supersede; split <;> simp
@[simp] theorem supersede_keys : (s.supersede).keys = s.keys := by unfold State.supersede; split <;> simp
@[simp] theorem supersede_port_cursor : ((s.supersede).port q).cursor = (s.port q).cursor := by unfold State.supersede; split <;> simp
@[simp] theorem supersede_port_watermark : ((s.supersede).port q).watermark = (s.port q).watermark := by unfold State.supersede; split <;> simp
@[simp] theorem supersede_port_view : ((s.supersede).port q).view = (s.port q).view := by unfold State.supersede; split <;> simp
@[simp] theorem supersede_port_mask : ((s.supersede).port q).mask = (s.port q).mask := by unfold State.supersede; split <;> simp
@[simp] theorem supersede_port_tickPoint : ((s.supersede).port q).tickPoint = (s.port q).tickPoint := by unfold State.supersede; split <;> simp
@[simp] theorem supersede_port_tickPending : ((s.supersede).port q).tickPending = (s.port q).tickPending := by unfold State.supersede; split <;> simp
@[simp] theorem supersede_port_list0 : ((s.supersede).port q).list0 = (s.port q).list0 := by unfold State.supersede; split <;> simp
@[simp] theorem supersede_port_list1 : ((s.supersede).port q).list1 = (s.port q).list1 := by unfold State.supersede; split <;> simp
@[simp] theorem supersede_port_store : ((s.supersede).port q).store = (s.port q).store := by unfold State.supersede; split <;> simp
@[simp] theorem supersede_port_sent : ((s.supersede).port q).sent = (s.port q).sent := by unfold State.supersede; split <;> simp

/-! ## takeSetting -/

@[simp] theorem takeSetting_pending : (s.takeSetting w).pending = s.pending := by unfold State.takeSetting; dsimp only; split <;> simp
@[simp] theorem takeSetting_pins : (s.takeSetting w).pins = s.pins := by unfold State.takeSetting; dsimp only; split <;> simp
@[simp] theorem takeSetting_ring : (s.takeSetting w).ring = s.ring := by unfold State.takeSetting; dsimp only; split <;> simp
@[simp] theorem takeSetting_nextSeq : (s.takeSetting w).nextSeq = s.nextSeq := by unfold State.takeSetting; dsimp only; split <;> simp
@[simp] theorem takeSetting_snap0 : (s.takeSetting w).snap0 = s.snap0 := by unfold State.takeSetting; dsimp only; split <;> simp
@[simp] theorem takeSetting_snap1 : (s.takeSetting w).snap1 = s.snap1 := by unfold State.takeSetting; dsimp only; split <;> simp
@[simp] theorem takeSetting_control : (s.takeSetting w).control = s.control := by unfold State.takeSetting; dsimp only; split <;> simp
@[simp] theorem takeSetting_port_cursor : ((s.takeSetting w).port q).cursor = (s.port q).cursor := by unfold State.takeSetting; dsimp only; split <;> simp
@[simp] theorem takeSetting_port_watermark : ((s.takeSetting w).port q).watermark = (s.port q).watermark := by unfold State.takeSetting; dsimp only; split <;> simp
@[simp] theorem takeSetting_port_view : ((s.takeSetting w).port q).view = (s.port q).view := by unfold State.takeSetting; dsimp only; split <;> simp
@[simp] theorem takeSetting_port_mask : ((s.takeSetting w).port q).mask = (s.port q).mask := by unfold State.takeSetting; dsimp only; split <;> simp
@[simp] theorem takeSetting_port_tickPoint : ((s.takeSetting w).port q).tickPoint = (s.port q).tickPoint := by unfold State.takeSetting; dsimp only; split <;> simp
@[simp] theorem takeSetting_port_tickPending : ((s.takeSetting w).port q).tickPending = (s.port q).tickPending := by unfold State.takeSetting; dsimp only; split <;> simp
@[simp] theorem takeSetting_port_list0 : ((s.takeSetting w).port q).list0 = (s.port q).list0 := by unfold State.takeSetting; dsimp only; split <;> simp
@[simp] theorem takeSetting_port_list1 : ((s.takeSetting w).port q).list1 = (s.port q).list1 := by unfold State.takeSetting; dsimp only; split <;> simp
@[simp] theorem takeSetting_port_slot : ((s.takeSetting w).port q).slot = (s.port q).slot := by unfold State.takeSetting; dsimp only; split <;> simp
@[simp] theorem takeSetting_port_store : ((s.takeSetting w).port q).store = (s.port q).store := by unfold State.takeSetting; dsimp only; split <;> simp
@[simp] theorem takeSetting_port_sent : ((s.takeSetting w).port q).sent = (s.port q).sent := by unfold State.takeSetting; dsimp only; split <;> simp

/-! ## cancelWaiting -/

@[simp] theorem cancelWaiting_pending : (s.cancelWaiting).pending = s.pending := by unfold State.cancelWaiting; split <;> simp
@[simp] theorem cancelWaiting_pins : (s.cancelWaiting).pins = s.pins := by unfold State.cancelWaiting; split <;> simp
@[simp] theorem cancelWaiting_frame : (s.cancelWaiting).frame = s.frame := by unfold State.cancelWaiting; split <;> simp
@[simp] theorem cancelWaiting_search : (s.cancelWaiting).search = s.search := by unfold State.cancelWaiting; split <;> simp
@[simp] theorem cancelWaiting_tool0 : (s.cancelWaiting).tool0 = s.tool0 := by unfold State.cancelWaiting; split <;> simp
@[simp] theorem cancelWaiting_tool1 : (s.cancelWaiting).tool1 = s.tool1 := by unfold State.cancelWaiting; split <;> simp
@[simp] theorem cancelWaiting_ring : (s.cancelWaiting).ring = s.ring := by unfold State.cancelWaiting; split <;> simp
@[simp] theorem cancelWaiting_nextSeq : (s.cancelWaiting).nextSeq = s.nextSeq := by unfold State.cancelWaiting; split <;> simp
@[simp] theorem cancelWaiting_snap0 : (s.cancelWaiting).snap0 = s.snap0 := by unfold State.cancelWaiting; split <;> simp
@[simp] theorem cancelWaiting_snap1 : (s.cancelWaiting).snap1 = s.snap1 := by unfold State.cancelWaiting; split <;> simp
@[simp] theorem cancelWaiting_settings : (s.cancelWaiting).settings = s.settings := by unfold State.cancelWaiting; split <;> simp
@[simp] theorem cancelWaiting_waiting : (s.cancelWaiting).waiting = s.waiting := by unfold State.cancelWaiting; split <;> simp
@[simp] theorem cancelWaiting_epoch : (s.cancelWaiting).epoch = s.epoch := by unfold State.cancelWaiting; split <;> simp
@[simp] theorem cancelWaiting_keys : (s.cancelWaiting).keys = s.keys := by unfold State.cancelWaiting; split <;> simp
@[simp] theorem cancelWaiting_port_cursor : ((s.cancelWaiting).port q).cursor = (s.port q).cursor := by unfold State.cancelWaiting; split <;> simp
@[simp] theorem cancelWaiting_port_watermark : ((s.cancelWaiting).port q).watermark = (s.port q).watermark := by unfold State.cancelWaiting; split <;> simp
@[simp] theorem cancelWaiting_port_view : ((s.cancelWaiting).port q).view = (s.port q).view := by unfold State.cancelWaiting; split <;> simp
@[simp] theorem cancelWaiting_port_mask : ((s.cancelWaiting).port q).mask = (s.port q).mask := by unfold State.cancelWaiting; split <;> simp
@[simp] theorem cancelWaiting_port_tickPoint : ((s.cancelWaiting).port q).tickPoint = (s.port q).tickPoint := by unfold State.cancelWaiting; split <;> simp
@[simp] theorem cancelWaiting_port_tickPending : ((s.cancelWaiting).port q).tickPending = (s.port q).tickPending := by unfold State.cancelWaiting; split <;> simp
@[simp] theorem cancelWaiting_port_list0 : ((s.cancelWaiting).port q).list0 = (s.port q).list0 := by unfold State.cancelWaiting; split <;> simp
@[simp] theorem cancelWaiting_port_list1 : ((s.cancelWaiting).port q).list1 = (s.port q).list1 := by unfold State.cancelWaiting; split <;> simp
@[simp] theorem cancelWaiting_port_store : ((s.cancelWaiting).port q).store = (s.port q).store := by unfold State.cancelWaiting; split <;> simp
@[simp] theorem cancelWaiting_port_sent : ((s.cancelWaiting).port q).sent = (s.port q).sent := by unfold State.cancelWaiting; split <;> simp

/-! ## cancelActive -/

@[simp] theorem cancelActive_pending : (s.cancelActive).pending = s.pending := by unfold State.cancelActive; split <;> simp
@[simp] theorem cancelActive_pins : (s.cancelActive).pins = s.pins := by unfold State.cancelActive; split <;> simp
@[simp] theorem cancelActive_frame : (s.cancelActive).frame = s.frame := by unfold State.cancelActive; split <;> simp
@[simp] theorem cancelActive_search : (s.cancelActive).search = s.search := by unfold State.cancelActive; split <;> simp
@[simp] theorem cancelActive_tool0 : (s.cancelActive).tool0 = s.tool0 := by unfold State.cancelActive; split <;> simp
@[simp] theorem cancelActive_tool1 : (s.cancelActive).tool1 = s.tool1 := by unfold State.cancelActive; split <;> simp
@[simp] theorem cancelActive_ring : (s.cancelActive).ring = s.ring := by unfold State.cancelActive; split <;> simp
@[simp] theorem cancelActive_nextSeq : (s.cancelActive).nextSeq = s.nextSeq := by unfold State.cancelActive; split <;> simp
@[simp] theorem cancelActive_snap0 : (s.cancelActive).snap0 = s.snap0 := by unfold State.cancelActive; split <;> simp
@[simp] theorem cancelActive_snap1 : (s.cancelActive).snap1 = s.snap1 := by unfold State.cancelActive; split <;> simp
@[simp] theorem cancelActive_settings : (s.cancelActive).settings = s.settings := by unfold State.cancelActive; split <;> simp
@[simp] theorem cancelActive_waiting : (s.cancelActive).waiting = s.waiting := by unfold State.cancelActive; split <;> simp
@[simp] theorem cancelActive_epoch : (s.cancelActive).epoch = s.epoch := by unfold State.cancelActive; split <;> simp
@[simp] theorem cancelActive_control : (s.cancelActive).control = s.control := by unfold State.cancelActive; split <;> simp
@[simp] theorem cancelActive_keys : (s.cancelActive).keys = s.keys := by unfold State.cancelActive; split <;> simp
@[simp] theorem cancelActive_port_cursor : ((s.cancelActive).port q).cursor = (s.port q).cursor := by unfold State.cancelActive; split <;> simp
@[simp] theorem cancelActive_port_watermark : ((s.cancelActive).port q).watermark = (s.port q).watermark := by unfold State.cancelActive; split <;> simp
@[simp] theorem cancelActive_port_view : ((s.cancelActive).port q).view = (s.port q).view := by unfold State.cancelActive; split <;> simp
@[simp] theorem cancelActive_port_mask : ((s.cancelActive).port q).mask = (s.port q).mask := by unfold State.cancelActive; split <;> simp
@[simp] theorem cancelActive_port_tickPoint : ((s.cancelActive).port q).tickPoint = (s.port q).tickPoint := by unfold State.cancelActive; split <;> simp
@[simp] theorem cancelActive_port_tickPending : ((s.cancelActive).port q).tickPending = (s.port q).tickPending := by unfold State.cancelActive; split <;> simp
@[simp] theorem cancelActive_port_list0 : ((s.cancelActive).port q).list0 = (s.port q).list0 := by unfold State.cancelActive; split <;> simp
@[simp] theorem cancelActive_port_list1 : ((s.cancelActive).port q).list1 = (s.port q).list1 := by unfold State.cancelActive; split <;> simp
@[simp] theorem cancelActive_port_store : ((s.cancelActive).port q).store = (s.port q).store := by unfold State.cancelActive; split <;> simp
@[simp] theorem cancelActive_port_sent : ((s.cancelActive).port q).sent = (s.port q).sent := by unfold State.cancelActive; split <;> simp

/-! ## beginHold -/

@[simp] theorem beginHold_pending : (s.beginHold p delay).pending = s.pending := by simp [State.beginHold]
@[simp] theorem beginHold_pins : (s.beginHold p delay).pins = s.pins := by simp [State.beginHold]
@[simp] theorem beginHold_frame : (s.beginHold p delay).frame = s.frame := by simp [State.beginHold]
@[simp] theorem beginHold_search : (s.beginHold p delay).search = s.search := by simp [State.beginHold]
@[simp] theorem beginHold_tool0 : (s.beginHold p delay).tool0 = s.tool0 := by simp [State.beginHold]
@[simp] theorem beginHold_tool1 : (s.beginHold p delay).tool1 = s.tool1 := by simp [State.beginHold]
@[simp] theorem beginHold_ring : (s.beginHold p delay).ring = s.ring := by simp [State.beginHold]
@[simp] theorem beginHold_nextSeq : (s.beginHold p delay).nextSeq = s.nextSeq := by simp [State.beginHold]
@[simp] theorem beginHold_snap0 : (s.beginHold p delay).snap0 = s.snap0 := by simp [State.beginHold]
@[simp] theorem beginHold_snap1 : (s.beginHold p delay).snap1 = s.snap1 := by simp [State.beginHold]
@[simp] theorem beginHold_settings : (s.beginHold p delay).settings = s.settings := by simp [State.beginHold]
@[simp] theorem beginHold_waiting : (s.beginHold p delay).waiting = s.waiting := by simp [State.beginHold]
@[simp] theorem beginHold_epoch : (s.beginHold p delay).epoch = s.epoch := by simp [State.beginHold]
@[simp] theorem beginHold_keys : (s.beginHold p delay).keys = s.keys := by simp [State.beginHold]
@[simp] theorem beginHold_port_cursor : ((s.beginHold p delay).port q).cursor = (s.port q).cursor := by simp [State.beginHold]
@[simp] theorem beginHold_port_watermark : ((s.beginHold p delay).port q).watermark = (s.port q).watermark := by simp [State.beginHold]
@[simp] theorem beginHold_port_view : ((s.beginHold p delay).port q).view = (s.port q).view := by simp [State.beginHold]
@[simp] theorem beginHold_port_mask : ((s.beginHold p delay).port q).mask = (s.port q).mask := by simp [State.beginHold]
@[simp] theorem beginHold_port_tickPoint : ((s.beginHold p delay).port q).tickPoint = (s.port q).tickPoint := by simp [State.beginHold]
@[simp] theorem beginHold_port_tickPending : ((s.beginHold p delay).port q).tickPending = (s.port q).tickPending := by simp [State.beginHold]
@[simp] theorem beginHold_port_list0 : ((s.beginHold p delay).port q).list0 = (s.port q).list0 := by simp [State.beginHold]
@[simp] theorem beginHold_port_list1 : ((s.beginHold p delay).port q).list1 = (s.port q).list1 := by simp [State.beginHold]
@[simp] theorem beginHold_port_store : ((s.beginHold p delay).port q).store = (s.port q).store := by simp [State.beginHold]
@[simp] theorem beginHold_port_sent : ((s.beginHold p delay).port q).sent = (s.port q).sent := by simp [State.beginHold]

/-! ## emptyCapture -/

@[simp] theorem emptyCapture_pending : (s.emptyCapture).pending = s.pending := by rfl
@[simp] theorem emptyCapture_pins : (s.emptyCapture).pins = s.pins := by rfl
@[simp] theorem emptyCapture_frame : (s.emptyCapture).frame = s.frame := by rfl
@[simp] theorem emptyCapture_search : (s.emptyCapture).search = s.search := by rfl
@[simp] theorem emptyCapture_tool0 : (s.emptyCapture).tool0 = s.tool0 := by rfl
@[simp] theorem emptyCapture_tool1 : (s.emptyCapture).tool1 = s.tool1 := by rfl
@[simp] theorem emptyCapture_ring : (s.emptyCapture).ring = s.ring := by rfl
@[simp] theorem emptyCapture_nextSeq : (s.emptyCapture).nextSeq = s.nextSeq := by rfl
@[simp] theorem emptyCapture_snap0 : (s.emptyCapture).snap0 = s.snap0 := by rfl
@[simp] theorem emptyCapture_snap1 : (s.emptyCapture).snap1 = s.snap1 := by rfl
@[simp] theorem emptyCapture_settings : (s.emptyCapture).settings = s.settings := by rfl
@[simp] theorem emptyCapture_waiting : (s.emptyCapture).waiting = s.waiting := by rfl
@[simp] theorem emptyCapture_epoch : (s.emptyCapture).epoch = s.epoch := by rfl
@[simp] theorem emptyCapture_portS : (s.emptyCapture).portS = s.portS := by rfl
@[simp] theorem emptyCapture_portD : (s.emptyCapture).portD = s.portD := by rfl
@[simp] theorem emptyCapture_keys : (s.emptyCapture).keys = s.keys := by rfl
@[simp] theorem emptyCapture_port : (s.emptyCapture).port q = s.port q := by cases q <;> simp [port_s, port_d]

/-! ## resetCapture -/

@[simp] theorem resetCapture_pending : (s.resetCapture p).pending = s.pending := by unfold State.resetCapture; split <;> rfl
@[simp] theorem resetCapture_pins : (s.resetCapture p).pins = s.pins := by unfold State.resetCapture; split <;> rfl
@[simp] theorem resetCapture_frame : (s.resetCapture p).frame = s.frame := by unfold State.resetCapture; split <;> rfl
@[simp] theorem resetCapture_search : (s.resetCapture p).search = s.search := by unfold State.resetCapture; split <;> rfl
@[simp] theorem resetCapture_tool0 : (s.resetCapture p).tool0 = s.tool0 := by unfold State.resetCapture; split <;> rfl
@[simp] theorem resetCapture_tool1 : (s.resetCapture p).tool1 = s.tool1 := by unfold State.resetCapture; split <;> rfl
@[simp] theorem resetCapture_ring : (s.resetCapture p).ring = s.ring := by unfold State.resetCapture; split <;> rfl
@[simp] theorem resetCapture_nextSeq : (s.resetCapture p).nextSeq = s.nextSeq := by unfold State.resetCapture; split <;> rfl
@[simp] theorem resetCapture_snap0 : (s.resetCapture p).snap0 = s.snap0 := by unfold State.resetCapture; split <;> rfl
@[simp] theorem resetCapture_snap1 : (s.resetCapture p).snap1 = s.snap1 := by unfold State.resetCapture; split <;> rfl
@[simp] theorem resetCapture_settings : (s.resetCapture p).settings = s.settings := by unfold State.resetCapture; split <;> rfl
@[simp] theorem resetCapture_waiting : (s.resetCapture p).waiting = s.waiting := by unfold State.resetCapture; split <;> rfl
@[simp] theorem resetCapture_epoch : (s.resetCapture p).epoch = s.epoch := by unfold State.resetCapture; split <;> rfl
@[simp] theorem resetCapture_portS : (s.resetCapture p).portS = s.portS := by unfold State.resetCapture; split <;> rfl
@[simp] theorem resetCapture_portD : (s.resetCapture p).portD = s.portD := by unfold State.resetCapture; split <;> rfl
@[simp] theorem resetCapture_keys : (s.resetCapture p).keys = s.keys := by unfold State.resetCapture; split <;> rfl
@[simp] theorem resetCapture_port : (s.resetCapture p).port q = s.port q := by cases q <;> simp [port_s, port_d]

/-! ## append -/

@[simp] theorem append_pending : (s.append rs).pending = s.pending := by unfold State.append; split <;> simp
@[simp] theorem append_pins : (s.append rs).pins = s.pins := by unfold State.append; split <;> simp
@[simp] theorem append_frame : (s.append rs).frame = s.frame := by unfold State.append; split <;> simp
@[simp] theorem append_search : (s.append rs).search = s.search := by unfold State.append; split <;> simp
@[simp] theorem append_tool0 : (s.append rs).tool0 = s.tool0 := by unfold State.append; split <;> simp
@[simp] theorem append_tool1 : (s.append rs).tool1 = s.tool1 := by unfold State.append; split <;> simp
@[simp] theorem append_snap0 : (s.append rs).snap0 = s.snap0 := by unfold State.append; split <;> simp
@[simp] theorem append_snap1 : (s.append rs).snap1 = s.snap1 := by unfold State.append; split <;> simp
@[simp] theorem append_settings : (s.append rs).settings = s.settings := by unfold State.append; split <;> simp
@[simp] theorem append_waiting : (s.append rs).waiting = s.waiting := by unfold State.append; split <;> simp
@[simp] theorem append_epoch : (s.append rs).epoch = s.epoch := by unfold State.append; split <;> simp
@[simp] theorem append_control : (s.append rs).control = s.control := by unfold State.append; split <;> simp
@[simp] theorem append_keys : (s.append rs).keys = s.keys := by unfold State.append; split <;> simp
@[simp] theorem append_port_watermark : ((s.append rs).port q).watermark = (s.port q).watermark := by unfold State.append; split <;> (try rfl) <;> cases q <;> (simp [PortState.overrun]; rfl)
@[simp] theorem append_port_view : ((s.append rs).port q).view = (s.port q).view := by unfold State.append; split <;> (try rfl) <;> cases q <;> (simp [PortState.overrun]; rfl)
@[simp] theorem append_port_mask : ((s.append rs).port q).mask = (s.port q).mask := by unfold State.append; split <;> (try rfl) <;> cases q <;> (simp [PortState.overrun]; rfl)
@[simp] theorem append_port_tickPoint : ((s.append rs).port q).tickPoint = (s.port q).tickPoint := by unfold State.append; split <;> (try rfl) <;> cases q <;> (simp [PortState.overrun]; rfl)
@[simp] theorem append_port_tickPending : ((s.append rs).port q).tickPending = (s.port q).tickPending := by unfold State.append; split <;> (try rfl) <;> cases q <;> (simp [PortState.overrun]; rfl)
@[simp] theorem append_port_list0 : ((s.append rs).port q).list0 = (s.port q).list0 := by unfold State.append; split <;> (try rfl) <;> cases q <;> (simp [PortState.overrun]; rfl)
@[simp] theorem append_port_list1 : ((s.append rs).port q).list1 = (s.port q).list1 := by unfold State.append; split <;> (try rfl) <;> cases q <;> (simp [PortState.overrun]; rfl)
@[simp] theorem append_port_slot : ((s.append rs).port q).slot = (s.port q).slot := by unfold State.append; split <;> (try rfl) <;> cases q <;> (simp [PortState.overrun]; rfl)
@[simp] theorem append_port_store : ((s.append rs).port q).store = (s.port q).store := by unfold State.append; split <;> (try rfl) <;> cases q <;> (simp [PortState.overrun]; rfl)
@[simp] theorem append_port_sent : ((s.append rs).port q).sent = (s.port q).sent := by unfold State.append; split <;> (try rfl) <;> cases q <;> (simp [PortState.overrun]; rfl)

/-! ## trackEngine -/

@[simp] theorem trackEngine_pending : (s.trackEngine).pending = s.pending := by simp [State.trackEngine]
@[simp] theorem trackEngine_pins : (s.trackEngine).pins = s.pins := by simp [State.trackEngine]
@[simp] theorem trackEngine_frame : (s.trackEngine).frame = s.frame := by simp [State.trackEngine]
@[simp] theorem trackEngine_search : (s.trackEngine).search = s.search := by simp [State.trackEngine]
@[simp] theorem trackEngine_settings : (s.trackEngine).settings = s.settings := by simp [State.trackEngine]
@[simp] theorem trackEngine_waiting : (s.trackEngine).waiting = s.waiting := by simp [State.trackEngine]
@[simp] theorem trackEngine_epoch : (s.trackEngine).epoch = s.epoch := by simp [State.trackEngine]
@[simp] theorem trackEngine_control : (s.trackEngine).control = s.control := by simp [State.trackEngine]
@[simp] theorem trackEngine_keys : (s.trackEngine).keys = s.keys := by simp [State.trackEngine]
@[simp] theorem trackEngine_port_watermark : ((s.trackEngine).port q).watermark = (s.port q).watermark := by simp [State.trackEngine]
@[simp] theorem trackEngine_port_view : ((s.trackEngine).port q).view = (s.port q).view := by simp [State.trackEngine]
@[simp] theorem trackEngine_port_mask : ((s.trackEngine).port q).mask = (s.port q).mask := by simp [State.trackEngine]
@[simp] theorem trackEngine_port_tickPoint : ((s.trackEngine).port q).tickPoint = (s.port q).tickPoint := by simp [State.trackEngine]
@[simp] theorem trackEngine_port_tickPending : ((s.trackEngine).port q).tickPending = (s.port q).tickPending := by simp [State.trackEngine]
@[simp] theorem trackEngine_port_slot : ((s.trackEngine).port q).slot = (s.port q).slot := by simp [State.trackEngine]
@[simp] theorem trackEngine_port_store : ((s.trackEngine).port q).store = (s.port q).store := by simp [State.trackEngine]
@[simp] theorem trackEngine_port_sent : ((s.trackEngine).port q).sent = (s.port q).sent := by simp [State.trackEngine]

/-! ## frameEnd -/

@[simp] theorem frameEnd_pending : (s.frameEnd).pending = s.pending := by unfold State.frameEnd; dsimp only; split <;> simp
@[simp] theorem frameEnd_pins : (s.frameEnd).pins = s.pins := by unfold State.frameEnd; dsimp only; split <;> simp
@[simp] theorem frameEnd_port_watermark : ((s.frameEnd).port q).watermark = (s.port q).watermark := by unfold State.frameEnd; dsimp only; split <;> simp
@[simp] theorem frameEnd_port_view : ((s.frameEnd).port q).view = (s.port q).view := by unfold State.frameEnd; dsimp only; split <;> simp
@[simp] theorem frameEnd_port_mask : ((s.frameEnd).port q).mask = (s.port q).mask := by unfold State.frameEnd; dsimp only; split <;> simp
@[simp] theorem frameEnd_port_tickPoint : ((s.frameEnd).port q).tickPoint = (s.port q).tickPoint := by unfold State.frameEnd; dsimp only; split <;> simp
@[simp] theorem frameEnd_port_tickPending : ((s.frameEnd).port q).tickPending = (s.port q).tickPending := by unfold State.frameEnd; dsimp only; split <;> simp
@[simp] theorem frameEnd_port_store : ((s.frameEnd).port q).store = (s.port q).store := by unfold State.frameEnd; dsimp only; split <;> simp
@[simp] theorem frameEnd_port_sent : ((s.frameEnd).port q).sent = (s.port q).sent := by unfold State.frameEnd; dsimp only; split <;> simp

/-! ## endSlot -/

@[simp] theorem endSlot_pending : (s.endSlot n o).pending = s.pending := by unfold State.endSlot; dsimp only; split <;> simp
@[simp] theorem endSlot_pins : (s.endSlot n o).pins = s.pins := by unfold State.endSlot; dsimp only; split <;> simp
@[simp] theorem endSlot_port_watermark : ((s.endSlot n o).port q).watermark = (s.port q).watermark := by unfold State.endSlot; dsimp only; split <;> simp
@[simp] theorem endSlot_port_view : ((s.endSlot n o).port q).view = (s.port q).view := by unfold State.endSlot; dsimp only; split <;> simp
@[simp] theorem endSlot_port_mask : ((s.endSlot n o).port q).mask = (s.port q).mask := by unfold State.endSlot; dsimp only; split <;> simp
@[simp] theorem endSlot_port_tickPoint : ((s.endSlot n o).port q).tickPoint = (s.port q).tickPoint := by unfold State.endSlot; dsimp only; split <;> simp
@[simp] theorem endSlot_port_tickPending : ((s.endSlot n o).port q).tickPending = (s.port q).tickPending := by unfold State.endSlot; dsimp only; split <;> simp
@[simp] theorem endSlot_port_store : ((s.endSlot n o).port q).store = (s.port q).store := by unfold State.endSlot; dsimp only; split <;> simp
@[simp] theorem endSlot_port_sent : ((s.endSlot n o).port q).sent = (s.port q).sent := by unfold State.endSlot; dsimp only; split <;> simp

/-! ## beginSlot -/

@[simp] theorem beginSlot_pending : (s.beginSlot n).pending = s.pending := by
  unfold State.beginSlot; dsimp only; repeat' split
  all_goals simp
@[simp] theorem beginSlot_port_watermark : ((s.beginSlot n).port q).watermark = (s.port q).watermark := by
  unfold State.beginSlot; dsimp only; repeat' split
  all_goals simp
@[simp] theorem beginSlot_port_view : ((s.beginSlot n).port q).view = (s.port q).view := by
  unfold State.beginSlot; dsimp only; repeat' split
  all_goals simp
@[simp] theorem beginSlot_port_mask : ((s.beginSlot n).port q).mask = (s.port q).mask := by
  unfold State.beginSlot; dsimp only; repeat' split
  all_goals simp
@[simp] theorem beginSlot_port_tickPoint : ((s.beginSlot n).port q).tickPoint = (s.port q).tickPoint := by
  unfold State.beginSlot; dsimp only; repeat' split
  all_goals simp
@[simp] theorem beginSlot_port_tickPending : ((s.beginSlot n).port q).tickPending = (s.port q).tickPending := by
  unfold State.beginSlot; dsimp only; repeat' split
  all_goals simp
@[simp] theorem beginSlot_port_store : ((s.beginSlot n).port q).store = (s.port q).store := by
  unfold State.beginSlot; dsimp only; repeat' split
  all_goals simp
@[simp] theorem beginSlot_port_sent : ((s.beginSlot n).port q).sent = (s.port q).sent := by
  unfold State.beginSlot; dsimp only; repeat' split
  all_goals simp

/-! ## truncate -/

@[simp] theorem truncate_pending : (s.truncate).pending = s.pending := by simp [State.truncate]
@[simp] theorem truncate_pins : (s.truncate).pins = s.pins := by simp [State.truncate]
@[simp] theorem truncate_port_watermark : ((s.truncate).port q).watermark = (s.port q).watermark := by simp [State.truncate]
@[simp] theorem truncate_port_view : ((s.truncate).port q).view = (s.port q).view := by simp [State.truncate]
@[simp] theorem truncate_port_mask : ((s.truncate).port q).mask = (s.port q).mask := by simp [State.truncate]
@[simp] theorem truncate_port_tickPoint : ((s.truncate).port q).tickPoint = (s.port q).tickPoint := by simp [State.truncate]
@[simp] theorem truncate_port_tickPending : ((s.truncate).port q).tickPending = (s.port q).tickPending := by simp [State.truncate]
@[simp] theorem truncate_port_store : ((s.truncate).port q).store = (s.port q).store := by simp [State.truncate]
@[simp] theorem truncate_port_sent : ((s.truncate).port q).sent = (s.port q).sent := by simp [State.truncate]

/-! ## frameStartUnlessHeld -/

@[simp] theorem frameStartUnlessHeld_pending : (s.frameStartUnlessHeld).pending = s.pending := by unfold State.frameStartUnlessHeld; split <;> simp
@[simp] theorem frameStartUnlessHeld_pins : (s.frameStartUnlessHeld).pins = s.pins := by unfold State.frameStartUnlessHeld; split <;> simp
@[simp] theorem frameStartUnlessHeld_ring : (s.frameStartUnlessHeld).ring = s.ring := by unfold State.frameStartUnlessHeld; split <;> simp
@[simp] theorem frameStartUnlessHeld_nextSeq : (s.frameStartUnlessHeld).nextSeq = s.nextSeq := by unfold State.frameStartUnlessHeld; split <;> simp
@[simp] theorem frameStartUnlessHeld_snap0 : (s.frameStartUnlessHeld).snap0 = s.snap0 := by unfold State.frameStartUnlessHeld; split <;> simp
@[simp] theorem frameStartUnlessHeld_snap1 : (s.frameStartUnlessHeld).snap1 = s.snap1 := by unfold State.frameStartUnlessHeld; split <;> simp
@[simp] theorem frameStartUnlessHeld_port_cursor : ((s.frameStartUnlessHeld).port q).cursor = (s.port q).cursor := by unfold State.frameStartUnlessHeld; split <;> simp
@[simp] theorem frameStartUnlessHeld_port_watermark : ((s.frameStartUnlessHeld).port q).watermark = (s.port q).watermark := by unfold State.frameStartUnlessHeld; split <;> simp
@[simp] theorem frameStartUnlessHeld_port_view : ((s.frameStartUnlessHeld).port q).view = (s.port q).view := by unfold State.frameStartUnlessHeld; split <;> simp
@[simp] theorem frameStartUnlessHeld_port_mask : ((s.frameStartUnlessHeld).port q).mask = (s.port q).mask := by unfold State.frameStartUnlessHeld; split <;> simp
@[simp] theorem frameStartUnlessHeld_port_tickPoint : ((s.frameStartUnlessHeld).port q).tickPoint = (s.port q).tickPoint := by unfold State.frameStartUnlessHeld; split <;> simp
@[simp] theorem frameStartUnlessHeld_port_list0 : ((s.frameStartUnlessHeld).port q).list0 = (s.port q).list0 := by unfold State.frameStartUnlessHeld; split <;> simp
@[simp] theorem frameStartUnlessHeld_port_list1 : ((s.frameStartUnlessHeld).port q).list1 = (s.port q).list1 := by unfold State.frameStartUnlessHeld; split <;> simp
@[simp] theorem frameStartUnlessHeld_port_store : ((s.frameStartUnlessHeld).port q).store = (s.port q).store := by unfold State.frameStartUnlessHeld; split <;> simp
@[simp] theorem frameStartUnlessHeld_port_sent : ((s.frameStartUnlessHeld).port q).sent = (s.port q).sent := by unfold State.frameStartUnlessHeld; split <;> simp

/-! ## dsyncPulse -/

@[simp] theorem dsyncPulse_pending : (s.dsyncPulse).pending = s.pending := by
  unfold State.dsyncPulse; repeat' split
  all_goals simp
@[simp] theorem dsyncPulse_pins : (s.dsyncPulse).pins = s.pins := by
  unfold State.dsyncPulse; repeat' split
  all_goals simp
@[simp] theorem dsyncPulse_port_watermark : ((s.dsyncPulse).port q).watermark = (s.port q).watermark := by
  unfold State.dsyncPulse; repeat' split
  all_goals simp
@[simp] theorem dsyncPulse_port_view : ((s.dsyncPulse).port q).view = (s.port q).view := by
  unfold State.dsyncPulse; repeat' split
  all_goals simp
@[simp] theorem dsyncPulse_port_mask : ((s.dsyncPulse).port q).mask = (s.port q).mask := by
  unfold State.dsyncPulse; repeat' split
  all_goals simp
@[simp] theorem dsyncPulse_port_tickPoint : ((s.dsyncPulse).port q).tickPoint = (s.port q).tickPoint := by
  unfold State.dsyncPulse; repeat' split
  all_goals simp
@[simp] theorem dsyncPulse_port_store : ((s.dsyncPulse).port q).store = (s.port q).store := by
  unfold State.dsyncPulse; repeat' split
  all_goals simp
@[simp] theorem dsyncPulse_port_sent : ((s.dsyncPulse).port q).sent = (s.port q).sent := by
  unfold State.dsyncPulse; repeat' split
  all_goals simp

/-! ## resetMode -/

@[simp] theorem resetMode_pending : (s.resetMode p).pending = s.pending := by
  unfold State.resetMode; repeat' split
  all_goals simp
@[simp] theorem resetMode_pins : (s.resetMode p).pins = s.pins := by
  unfold State.resetMode; repeat' split
  all_goals simp
@[simp] theorem resetMode_ring : (s.resetMode p).ring = s.ring := by
  unfold State.resetMode; repeat' split
  all_goals simp
@[simp] theorem resetMode_nextSeq : (s.resetMode p).nextSeq = s.nextSeq := by
  unfold State.resetMode; repeat' split
  all_goals simp
@[simp] theorem resetMode_snap0 : (s.resetMode p).snap0 = s.snap0 := by
  unfold State.resetMode; repeat' split
  all_goals simp
@[simp] theorem resetMode_snap1 : (s.resetMode p).snap1 = s.snap1 := by
  unfold State.resetMode; repeat' split
  all_goals simp
@[simp] theorem resetMode_port_cursor : ((s.resetMode p).port q).cursor = (s.port q).cursor := by
  unfold State.resetMode; repeat' split
  all_goals simp
@[simp] theorem resetMode_port_watermark : ((s.resetMode p).port q).watermark = (s.port q).watermark := by
  unfold State.resetMode; repeat' split
  all_goals simp
@[simp] theorem resetMode_port_view : ((s.resetMode p).port q).view = (s.port q).view := by
  unfold State.resetMode; repeat' split
  all_goals simp
@[simp] theorem resetMode_port_mask : ((s.resetMode p).port q).mask = (s.port q).mask := by
  unfold State.resetMode; repeat' split
  all_goals simp
@[simp] theorem resetMode_port_tickPoint : ((s.resetMode p).port q).tickPoint = (s.port q).tickPoint := by
  unfold State.resetMode; repeat' split
  all_goals simp
@[simp] theorem resetMode_port_list0 : ((s.resetMode p).port q).list0 = (s.port q).list0 := by
  unfold State.resetMode; repeat' split
  all_goals simp
@[simp] theorem resetMode_port_list1 : ((s.resetMode p).port q).list1 = (s.port q).list1 := by
  unfold State.resetMode; repeat' split
  all_goals simp
@[simp] theorem resetMode_port_store : ((s.resetMode p).port q).store = (s.port q).store := by
  unfold State.resetMode; repeat' split
  all_goals simp
@[simp] theorem resetMode_port_sent : ((s.resetMode p).port q).sent = (s.port q).sent := by
  unfold State.resetMode; repeat' split
  all_goals simp

end Sys2Proof.Machine
end

