-- ==== Sys2Proof/Laws/Scan.lean ====
section
/-! SUPPORT. What each composite operation leaves unchanged inside the Scan Timing Unit and Mode Control: one lemma per field. -/

namespace Sys2Proof.Machine

variable (s : State) (p q : Port) (w : Waiting) (old : Vector Profile 4) (m : SyncMode) (kc : KeyCombo) (tm : Bool)
  (i : ToolId) (co : Option (BitVec 4)) (n : Fin 8) (j : Job) (o : SlotOutcome) (b : Nat) (bank : List Nat) (ax : Axis)
  (cur : SearchCursor) (x y : List Nat) (ow : Port) (r : ResultCode) (rd : Reading) (delay : Byte) (tk : TaskKind) (d now : Nat)

/-! ## syncEffects -/

@[simp] theorem syncEffects_frame_phase : (s.syncEffects m).frame.phase = s.frame.phase := by unfold State.syncEffects; split <;> (try split) <;> rfl
@[simp] theorem syncEffects_frame_timer : (s.syncEffects m).frame.timer = s.frame.timer := by unfold State.syncEffects; split <;> (try split) <;> rfl
@[simp] theorem syncEffects_frame_midDone : (s.syncEffects m).frame.midDone = s.frame.midDone := by unfold State.syncEffects; split <;> (try split) <;> rfl
@[simp] theorem syncEffects_frame_count : (s.syncEffects m).frame.count = s.frame.count := by unfold State.syncEffects; split <;> (try split) <;> rfl
@[simp] theorem syncEffects_frame_activePlan : (s.syncEffects m).frame.activePlan = s.frame.activePlan := by unfold State.syncEffects; split <;> (try split) <;> rfl
@[simp] theorem syncEffects_frame_pendingPlan : (s.syncEffects m).frame.pendingPlan = s.frame.pendingPlan := by unfold State.syncEffects; split <;> (try split) <;> rfl
@[simp] theorem syncEffects_frame_outcomes : (s.syncEffects m).frame.outcomes = s.frame.outcomes := by unfold State.syncEffects; split <;> (try split) <;> rfl
@[simp] theorem syncEffects_frame_next : (s.syncEffects m).frame.next = s.frame.next := by unfold State.syncEffects; split <;> (try split) <;> rfl
@[simp] theorem syncEffects_frame_run : (s.syncEffects m).frame.run = s.frame.run := by unfold State.syncEffects; split <;> (try split) <;> rfl
@[simp] theorem syncEffects_frame_window : (s.syncEffects m).frame.window = s.frame.window := by unfold State.syncEffects; split <;> (try split) <;> rfl
@[simp] theorem syncEffects_frame_obs0 : (s.syncEffects m).frame.obs0 = s.frame.obs0 := by unfold State.syncEffects; split <;> (try split) <;> rfl
@[simp] theorem syncEffects_frame_obs1 : (s.syncEffects m).frame.obs1 = s.frame.obs1 := by unfold State.syncEffects; split <;> (try split) <;> rfl
@[simp] theorem syncEffects_frame_lastOutcomes : (s.syncEffects m).frame.lastOutcomes = s.frame.lastOutcomes := by unfold State.syncEffects; split <;> (try split) <;> rfl
@[simp] theorem syncEffects_frame_lastFrame : (s.syncEffects m).frame.lastFrame = s.frame.lastFrame := by unfold State.syncEffects; split <;> (try split) <;> rfl
@[simp] theorem syncEffects_frame_noiseAxis : (s.syncEffects m).frame.noiseAxis = s.frame.noiseAxis := by unfold State.syncEffects; split <;> (try split) <;> rfl
@[simp] theorem syncEffects_frame_noiseBand : (s.syncEffects m).frame.noiseBand = s.frame.noiseBand := by unfold State.syncEffects; split <;> (try split) <;> rfl
@[simp] theorem syncEffects_frame_noiseFloor : (s.syncEffects m).frame.noiseFloor = s.frame.noiseFloor := by unfold State.syncEffects; split <;> (try split) <;> rfl

/-! ## applyWaiting -/

@[simp] theorem applyWaiting_frame_phase : (s.applyWaiting).frame.phase = s.frame.phase := by unfold State.applyWaiting; split <;> simp
@[simp] theorem applyWaiting_frame_timer : (s.applyWaiting).frame.timer = s.frame.timer := by unfold State.applyWaiting; split <;> simp
@[simp] theorem applyWaiting_frame_midDone : (s.applyWaiting).frame.midDone = s.frame.midDone := by unfold State.applyWaiting; split <;> simp
@[simp] theorem applyWaiting_frame_count : (s.applyWaiting).frame.count = s.frame.count := by unfold State.applyWaiting; split <;> simp
@[simp] theorem applyWaiting_frame_activePlan : (s.applyWaiting).frame.activePlan = s.frame.activePlan := by unfold State.applyWaiting; split <;> simp
@[simp] theorem applyWaiting_frame_pendingPlan : (s.applyWaiting).frame.pendingPlan = s.frame.pendingPlan := by unfold State.applyWaiting; split <;> simp
@[simp] theorem applyWaiting_frame_outcomes : (s.applyWaiting).frame.outcomes = s.frame.outcomes := by unfold State.applyWaiting; split <;> simp
@[simp] theorem applyWaiting_frame_next : (s.applyWaiting).frame.next = s.frame.next := by unfold State.applyWaiting; split <;> simp
@[simp] theorem applyWaiting_frame_run : (s.applyWaiting).frame.run = s.frame.run := by unfold State.applyWaiting; split <;> simp
@[simp] theorem applyWaiting_frame_window : (s.applyWaiting).frame.window = s.frame.window := by unfold State.applyWaiting; split <;> simp
@[simp] theorem applyWaiting_frame_obs0 : (s.applyWaiting).frame.obs0 = s.frame.obs0 := by unfold State.applyWaiting; split <;> simp
@[simp] theorem applyWaiting_frame_obs1 : (s.applyWaiting).frame.obs1 = s.frame.obs1 := by unfold State.applyWaiting; split <;> simp
@[simp] theorem applyWaiting_frame_lastOutcomes : (s.applyWaiting).frame.lastOutcomes = s.frame.lastOutcomes := by unfold State.applyWaiting; split <;> simp
@[simp] theorem applyWaiting_frame_lastFrame : (s.applyWaiting).frame.lastFrame = s.frame.lastFrame := by unfold State.applyWaiting; split <;> simp
@[simp] theorem applyWaiting_frame_noiseAxis : (s.applyWaiting).frame.noiseAxis = s.frame.noiseAxis := by unfold State.applyWaiting; split <;> simp
@[simp] theorem applyWaiting_frame_noiseBand : (s.applyWaiting).frame.noiseBand = s.frame.noiseBand := by unfold State.applyWaiting; split <;> simp
@[simp] theorem applyWaiting_frame_noiseFloor : (s.applyWaiting).frame.noiseFloor = s.frame.noiseFloor := by unfold State.applyWaiting; split <;> simp

/-! ## applyPlan -/

@[simp] theorem applyPlan_frame_phase : (s.applyPlan).frame.phase = s.frame.phase := by unfold State.applyPlan; split <;> simp
@[simp] theorem applyPlan_frame_timer : (s.applyPlan).frame.timer = s.frame.timer := by unfold State.applyPlan; split <;> simp
@[simp] theorem applyPlan_frame_midDone : (s.applyPlan).frame.midDone = s.frame.midDone := by unfold State.applyPlan; split <;> simp
@[simp] theorem applyPlan_frame_count : (s.applyPlan).frame.count = s.frame.count := by unfold State.applyPlan; split <;> simp
@[simp] theorem applyPlan_frame_outcomes : (s.applyPlan).frame.outcomes = s.frame.outcomes := by unfold State.applyPlan; split <;> simp
@[simp] theorem applyPlan_frame_next : (s.applyPlan).frame.next = s.frame.next := by unfold State.applyPlan; split <;> simp
@[simp] theorem applyPlan_frame_run : (s.applyPlan).frame.run = s.frame.run := by unfold State.applyPlan; split <;> simp
@[simp] theorem applyPlan_frame_window : (s.applyPlan).frame.window = s.frame.window := by unfold State.applyPlan; split <;> simp
@[simp] theorem applyPlan_frame_obs0 : (s.applyPlan).frame.obs0 = s.frame.obs0 := by unfold State.applyPlan; split <;> simp
@[simp] theorem applyPlan_frame_obs1 : (s.applyPlan).frame.obs1 = s.frame.obs1 := by unfold State.applyPlan; split <;> simp
@[simp] theorem applyPlan_frame_lastOutcomes : (s.applyPlan).frame.lastOutcomes = s.frame.lastOutcomes := by unfold State.applyPlan; split <;> simp
@[simp] theorem applyPlan_frame_lastFrame : (s.applyPlan).frame.lastFrame = s.frame.lastFrame := by unfold State.applyPlan; split <;> simp
@[simp] theorem applyPlan_frame_sync : (s.applyPlan).frame.sync = s.frame.sync := by unfold State.applyPlan; split <;> simp
@[simp] theorem applyPlan_frame_syncTimer : (s.applyPlan).frame.syncTimer = s.frame.syncTimer := by unfold State.applyPlan; split <;> simp
@[simp] theorem applyPlan_frame_noiseAxis : (s.applyPlan).frame.noiseAxis = s.frame.noiseAxis := by unfold State.applyPlan; split <;> simp
@[simp] theorem applyPlan_frame_noiseBand : (s.applyPlan).frame.noiseBand = s.frame.noiseBand := by unfold State.applyPlan; split <;> simp
@[simp] theorem applyPlan_frame_noiseFloor : (s.applyPlan).frame.noiseFloor = s.frame.noiseFloor := by unfold State.applyPlan; split <;> simp

/-! ## syncExpire -/

@[simp] theorem syncExpire_frame_phase : (s.syncExpire).frame.phase = s.frame.phase := by simp [State.syncExpire]
@[simp] theorem syncExpire_frame_timer : (s.syncExpire).frame.timer = s.frame.timer := by simp [State.syncExpire]
@[simp] theorem syncExpire_frame_midDone : (s.syncExpire).frame.midDone = s.frame.midDone := by simp [State.syncExpire]
@[simp] theorem syncExpire_frame_count : (s.syncExpire).frame.count = s.frame.count := by simp [State.syncExpire]
@[simp] theorem syncExpire_frame_activePlan : (s.syncExpire).frame.activePlan = s.frame.activePlan := by simp [State.syncExpire]
@[simp] theorem syncExpire_frame_pendingPlan : (s.syncExpire).frame.pendingPlan = s.frame.pendingPlan := by simp [State.syncExpire]
@[simp] theorem syncExpire_frame_outcomes : (s.syncExpire).frame.outcomes = s.frame.outcomes := by simp [State.syncExpire]
@[simp] theorem syncExpire_frame_next : (s.syncExpire).frame.next = s.frame.next := by simp [State.syncExpire]
@[simp] theorem syncExpire_frame_run : (s.syncExpire).frame.run = s.frame.run := by simp [State.syncExpire]
@[simp] theorem syncExpire_frame_window : (s.syncExpire).frame.window = s.frame.window := by simp [State.syncExpire]
@[simp] theorem syncExpire_frame_obs0 : (s.syncExpire).frame.obs0 = s.frame.obs0 := by simp [State.syncExpire]
@[simp] theorem syncExpire_frame_obs1 : (s.syncExpire).frame.obs1 = s.frame.obs1 := by simp [State.syncExpire]
@[simp] theorem syncExpire_frame_lastOutcomes : (s.syncExpire).frame.lastOutcomes = s.frame.lastOutcomes := by simp [State.syncExpire]
@[simp] theorem syncExpire_frame_lastFrame : (s.syncExpire).frame.lastFrame = s.frame.lastFrame := by simp [State.syncExpire]
@[simp] theorem syncExpire_frame_noiseAxis : (s.syncExpire).frame.noiseAxis = s.frame.noiseAxis := by simp [State.syncExpire]
@[simp] theorem syncExpire_frame_noiseBand : (s.syncExpire).frame.noiseBand = s.frame.noiseBand := by simp [State.syncExpire]
@[simp] theorem syncExpire_frame_noiseFloor : (s.syncExpire).frame.noiseFloor = s.frame.noiseFloor := by simp [State.syncExpire]

/-! ## expireAfterChange -/

@[simp] theorem expireAfterChange_frame_phase : (s.expireAfterChange tm).frame.phase = s.frame.phase := by unfold State.expireAfterChange; split <;> (try split) <;> simp
@[simp] theorem expireAfterChange_frame_timer : (s.expireAfterChange tm).frame.timer = s.frame.timer := by unfold State.expireAfterChange; split <;> (try split) <;> simp
@[simp] theorem expireAfterChange_frame_midDone : (s.expireAfterChange tm).frame.midDone = s.frame.midDone := by unfold State.expireAfterChange; split <;> (try split) <;> simp
@[simp] theorem expireAfterChange_frame_count : (s.expireAfterChange tm).frame.count = s.frame.count := by unfold State.expireAfterChange; split <;> (try split) <;> simp
@[simp] theorem expireAfterChange_frame_activePlan : (s.expireAfterChange tm).frame.activePlan = s.frame.activePlan := by unfold State.expireAfterChange; split <;> (try split) <;> simp
@[simp] theorem expireAfterChange_frame_pendingPlan : (s.expireAfterChange tm).frame.pendingPlan = s.frame.pendingPlan := by unfold State.expireAfterChange; split <;> (try split) <;> simp
@[simp] theorem expireAfterChange_frame_outcomes : (s.expireAfterChange tm).frame.outcomes = s.frame.outcomes := by unfold State.expireAfterChange; split <;> (try split) <;> simp
@[simp] theorem expireAfterChange_frame_next : (s.expireAfterChange tm).frame.next = s.frame.next := by unfold State.expireAfterChange; split <;> (try split) <;> simp
@[simp] theorem expireAfterChange_frame_run : (s.expireAfterChange tm).frame.run = s.frame.run := by unfold State.expireAfterChange; split <;> (try split) <;> simp
@[simp] theorem expireAfterChange_frame_window : (s.expireAfterChange tm).frame.window = s.frame.window := by unfold State.expireAfterChange; split <;> (try split) <;> simp
@[simp] theorem expireAfterChange_frame_obs0 : (s.expireAfterChange tm).frame.obs0 = s.frame.obs0 := by unfold State.expireAfterChange; split <;> (try split) <;> simp
@[simp] theorem expireAfterChange_frame_obs1 : (s.expireAfterChange tm).frame.obs1 = s.frame.obs1 := by unfold State.expireAfterChange; split <;> (try split) <;> simp
@[simp] theorem expireAfterChange_frame_lastOutcomes : (s.expireAfterChange tm).frame.lastOutcomes = s.frame.lastOutcomes := by unfold State.expireAfterChange; split <;> (try split) <;> simp
@[simp] theorem expireAfterChange_frame_lastFrame : (s.expireAfterChange tm).frame.lastFrame = s.frame.lastFrame := by unfold State.expireAfterChange; split <;> (try split) <;> simp
@[simp] theorem expireAfterChange_frame_noiseAxis : (s.expireAfterChange tm).frame.noiseAxis = s.frame.noiseAxis := by unfold State.expireAfterChange; split <;> (try split) <;> simp
@[simp] theorem expireAfterChange_frame_noiseBand : (s.expireAfterChange tm).frame.noiseBand = s.frame.noiseBand := by unfold State.expireAfterChange; split <;> (try split) <;> simp
@[simp] theorem expireAfterChange_frame_noiseFloor : (s.expireAfterChange tm).frame.noiseFloor = s.frame.noiseFloor := by unfold State.expireAfterChange; split <;> (try split) <;> simp

/-! ## layOut -/

@[simp] theorem layOut_frame_phase : (s.layOut).frame.phase = s.frame.phase := by rfl
@[simp] theorem layOut_frame_timer : (s.layOut).frame.timer = s.frame.timer := by rfl
@[simp] theorem layOut_frame_midDone : (s.layOut).frame.midDone = s.frame.midDone := by rfl
@[simp] theorem layOut_frame_count : (s.layOut).frame.count = s.frame.count := by rfl
@[simp] theorem layOut_frame_activePlan : (s.layOut).frame.activePlan = s.frame.activePlan := by rfl
@[simp] theorem layOut_frame_pendingPlan : (s.layOut).frame.pendingPlan = s.frame.pendingPlan := by rfl
@[simp] theorem layOut_frame_run : (s.layOut).frame.run = s.frame.run := by rfl
@[simp] theorem layOut_frame_obs0 : (s.layOut).frame.obs0 = s.frame.obs0 := by rfl
@[simp] theorem layOut_frame_obs1 : (s.layOut).frame.obs1 = s.frame.obs1 := by rfl
@[simp] theorem layOut_frame_lastOutcomes : (s.layOut).frame.lastOutcomes = s.frame.lastOutcomes := by rfl
@[simp] theorem layOut_frame_lastFrame : (s.layOut).frame.lastFrame = s.frame.lastFrame := by rfl
@[simp] theorem layOut_frame_sync : (s.layOut).frame.sync = s.frame.sync := by rfl
@[simp] theorem layOut_frame_syncTimer : (s.layOut).frame.syncTimer = s.frame.syncTimer := by rfl
@[simp] theorem layOut_frame_noiseAxis : (s.layOut).frame.noiseAxis = s.frame.noiseAxis := by rfl
@[simp] theorem layOut_frame_noiseBand : (s.layOut).frame.noiseBand = s.frame.noiseBand := by rfl
@[simp] theorem layOut_frame_noiseFloor : (s.layOut).frame.noiseFloor = s.frame.noiseFloor := by rfl

/-! ## frameStart -/

@[simp] theorem frameStart_frame_lastOutcomes : (s.frameStart).frame.lastOutcomes = s.frame.lastOutcomes := by simp [State.frameStart]
@[simp] theorem frameStart_frame_lastFrame : (s.frameStart).frame.lastFrame = s.frame.lastFrame := by simp [State.frameStart]
@[simp] theorem frameStart_frame_noiseAxis : (s.frameStart).frame.noiseAxis = s.frame.noiseAxis := by simp [State.frameStart]
@[simp] theorem frameStart_frame_noiseBand : (s.frameStart).frame.noiseBand = s.frame.noiseBand := by simp [State.frameStart]
@[simp] theorem frameStart_frame_noiseFloor : (s.frameStart).frame.noiseFloor = s.frame.noiseFloor := by simp [State.frameStart]

/-! ## resume -/

@[simp] theorem resume_frame_lastOutcomes : (s.resume).frame.lastOutcomes = s.frame.lastOutcomes := by simp [State.resume]
@[simp] theorem resume_frame_lastFrame : (s.resume).frame.lastFrame = s.frame.lastFrame := by simp [State.resume]
@[simp] theorem resume_frame_noiseAxis : (s.resume).frame.noiseAxis = s.frame.noiseAxis := by simp [State.resume]
@[simp] theorem resume_frame_noiseBand : (s.resume).frame.noiseBand = s.frame.noiseBand := by simp [State.resume]
@[simp] theorem resume_frame_noiseFloor : (s.resume).frame.noiseFloor = s.frame.noiseFloor := by simp [State.resume]

/-! ## endHeld -/

@[simp] theorem endHeld_frame_lastOutcomes : (s.endHeld).frame.lastOutcomes = s.frame.lastOutcomes := by simp [State.endHeld]
@[simp] theorem endHeld_frame_lastFrame : (s.endHeld).frame.lastFrame = s.frame.lastFrame := by simp [State.endHeld]
@[simp] theorem endHeld_frame_noiseAxis : (s.endHeld).frame.noiseAxis = s.frame.noiseAxis := by simp [State.endHeld]
@[simp] theorem endHeld_frame_noiseBand : (s.endHeld).frame.noiseBand = s.frame.noiseBand := by simp [State.endHeld]
@[simp] theorem endHeld_frame_noiseFloor : (s.endHeld).frame.noiseFloor = s.frame.noiseFloor := by simp [State.endHeld]

/-! ## beginRun -/

@[simp] theorem beginRun_frame_phase : (s.beginRun n j).frame.phase = s.frame.phase := by rfl
@[simp] theorem beginRun_frame_timer : (s.beginRun n j).frame.timer = s.frame.timer := by rfl
@[simp] theorem beginRun_frame_midDone : (s.beginRun n j).frame.midDone = s.frame.midDone := by rfl
@[simp] theorem beginRun_frame_count : (s.beginRun n j).frame.count = s.frame.count := by rfl
@[simp] theorem beginRun_frame_activePlan : (s.beginRun n j).frame.activePlan = s.frame.activePlan := by rfl
@[simp] theorem beginRun_frame_pendingPlan : (s.beginRun n j).frame.pendingPlan = s.frame.pendingPlan := by rfl
@[simp] theorem beginRun_frame_outcomes : (s.beginRun n j).frame.outcomes = s.frame.outcomes := by rfl
@[simp] theorem beginRun_frame_next : (s.beginRun n j).frame.next = s.frame.next := by rfl
@[simp] theorem beginRun_frame_window : (s.beginRun n j).frame.window = s.frame.window := by rfl
@[simp] theorem beginRun_frame_obs0 : (s.beginRun n j).frame.obs0 = s.frame.obs0 := by rfl
@[simp] theorem beginRun_frame_obs1 : (s.beginRun n j).frame.obs1 = s.frame.obs1 := by rfl
@[simp] theorem beginRun_frame_lastOutcomes : (s.beginRun n j).frame.lastOutcomes = s.frame.lastOutcomes := by rfl
@[simp] theorem beginRun_frame_lastFrame : (s.beginRun n j).frame.lastFrame = s.frame.lastFrame := by rfl
@[simp] theorem beginRun_frame_sync : (s.beginRun n j).frame.sync = s.frame.sync := by rfl
@[simp] theorem beginRun_frame_syncTimer : (s.beginRun n j).frame.syncTimer = s.frame.syncTimer := by rfl
@[simp] theorem beginRun_frame_noiseAxis : (s.beginRun n j).frame.noiseAxis = s.frame.noiseAxis := by rfl
@[simp] theorem beginRun_frame_noiseBand : (s.beginRun n j).frame.noiseBand = s.frame.noiseBand := by rfl
@[simp] theorem beginRun_frame_noiseFloor : (s.beginRun n j).frame.noiseFloor = s.frame.noiseFloor := by rfl

/-! ## enterTail -/

@[simp] theorem enterTail_frame_timer : (s.enterTail).frame.timer = s.frame.timer := by rfl
@[simp] theorem enterTail_frame_midDone : (s.enterTail).frame.midDone = s.frame.midDone := by rfl
@[simp] theorem enterTail_frame_count : (s.enterTail).frame.count = s.frame.count := by rfl
@[simp] theorem enterTail_frame_activePlan : (s.enterTail).frame.activePlan = s.frame.activePlan := by rfl
@[simp] theorem enterTail_frame_pendingPlan : (s.enterTail).frame.pendingPlan = s.frame.pendingPlan := by rfl
@[simp] theorem enterTail_frame_outcomes : (s.enterTail).frame.outcomes = s.frame.outcomes := by rfl
@[simp] theorem enterTail_frame_next : (s.enterTail).frame.next = s.frame.next := by rfl
@[simp] theorem enterTail_frame_window : (s.enterTail).frame.window = s.frame.window := by rfl
@[simp] theorem enterTail_frame_obs0 : (s.enterTail).frame.obs0 = s.frame.obs0 := by rfl
@[simp] theorem enterTail_frame_obs1 : (s.enterTail).frame.obs1 = s.frame.obs1 := by rfl
@[simp] theorem enterTail_frame_sync : (s.enterTail).frame.sync = s.frame.sync := by rfl
@[simp] theorem enterTail_frame_syncTimer : (s.enterTail).frame.syncTimer = s.frame.syncTimer := by rfl
@[simp] theorem enterTail_frame_noiseAxis : (s.enterTail).frame.noiseAxis = s.frame.noiseAxis := by rfl
@[simp] theorem enterTail_frame_noiseBand : (s.enterTail).frame.noiseBand = s.frame.noiseBand := by rfl
@[simp] theorem enterTail_frame_noiseFloor : (s.enterTail).frame.noiseFloor = s.frame.noiseFloor := by rfl

/-! ## stopFrames -/

@[simp] theorem stopFrames_frame_timer : (s.stopFrames).frame.timer = s.frame.timer := by rfl
@[simp] theorem stopFrames_frame_midDone : (s.stopFrames).frame.midDone = s.frame.midDone := by rfl
@[simp] theorem stopFrames_frame_count : (s.stopFrames).frame.count = s.frame.count := by rfl
@[simp] theorem stopFrames_frame_activePlan : (s.stopFrames).frame.activePlan = s.frame.activePlan := by rfl
@[simp] theorem stopFrames_frame_pendingPlan : (s.stopFrames).frame.pendingPlan = s.frame.pendingPlan := by rfl
@[simp] theorem stopFrames_frame_outcomes : (s.stopFrames).frame.outcomes = s.frame.outcomes := by rfl
@[simp] theorem stopFrames_frame_next : (s.stopFrames).frame.next = s.frame.next := by rfl
@[simp] theorem stopFrames_frame_run : (s.stopFrames).frame.run = s.frame.run := by rfl
@[simp] theorem stopFrames_frame_window : (s.stopFrames).frame.window = s.frame.window := by rfl
@[simp] theorem stopFrames_frame_obs0 : (s.stopFrames).frame.obs0 = s.frame.obs0 := by rfl
@[simp] theorem stopFrames_frame_obs1 : (s.stopFrames).frame.obs1 = s.frame.obs1 := by rfl
@[simp] theorem stopFrames_frame_lastOutcomes : (s.stopFrames).frame.lastOutcomes = s.frame.lastOutcomes := by rfl
@[simp] theorem stopFrames_frame_lastFrame : (s.stopFrames).frame.lastFrame = s.frame.lastFrame := by rfl
@[simp] theorem stopFrames_frame_sync : (s.stopFrames).frame.sync = s.frame.sync := by rfl
@[simp] theorem stopFrames_frame_noiseAxis : (s.stopFrames).frame.noiseAxis = s.frame.noiseAxis := by rfl
@[simp] theorem stopFrames_frame_noiseBand : (s.stopFrames).frame.noiseBand = s.frame.noiseBand := by rfl
@[simp] theorem stopFrames_frame_noiseFloor : (s.stopFrames).frame.noiseFloor = s.frame.noiseFloor := by rfl

/-! ## enterHeld -/

@[simp] theorem enterHeld_frame_timer : (s.enterHeld).frame.timer = s.frame.timer := by simp [State.enterHeld]
@[simp] theorem enterHeld_frame_midDone : (s.enterHeld).frame.midDone = s.frame.midDone := by simp [State.enterHeld]
@[simp] theorem enterHeld_frame_count : (s.enterHeld).frame.count = s.frame.count := by simp [State.enterHeld]
@[simp] theorem enterHeld_frame_activePlan : (s.enterHeld).frame.activePlan = s.frame.activePlan := by simp [State.enterHeld]
@[simp] theorem enterHeld_frame_pendingPlan : (s.enterHeld).frame.pendingPlan = s.frame.pendingPlan := by simp [State.enterHeld]
@[simp] theorem enterHeld_frame_outcomes : (s.enterHeld).frame.outcomes = s.frame.outcomes := by simp [State.enterHeld]
@[simp] theorem enterHeld_frame_next : (s.enterHeld).frame.next = s.frame.next := by simp [State.enterHeld]
@[simp] theorem enterHeld_frame_run : (s.enterHeld).frame.run = s.frame.run := by simp [State.enterHeld]
@[simp] theorem enterHeld_frame_window : (s.enterHeld).frame.window = s.frame.window := by simp [State.enterHeld]
@[simp] theorem enterHeld_frame_obs0 : (s.enterHeld).frame.obs0 = s.frame.obs0 := by simp [State.enterHeld]
@[simp] theorem enterHeld_frame_obs1 : (s.enterHeld).frame.obs1 = s.frame.obs1 := by simp [State.enterHeld]
@[simp] theorem enterHeld_frame_lastOutcomes : (s.enterHeld).frame.lastOutcomes = s.frame.lastOutcomes := by simp [State.enterHeld]
@[simp] theorem enterHeld_frame_lastFrame : (s.enterHeld).frame.lastFrame = s.frame.lastFrame := by simp [State.enterHeld]
@[simp] theorem enterHeld_frame_noiseAxis : (s.enterHeld).frame.noiseAxis = s.frame.noiseAxis := by simp [State.enterHeld]
@[simp] theorem enterHeld_frame_noiseBand : (s.enterHeld).frame.noiseBand = s.frame.noiseBand := by simp [State.enterHeld]
@[simp] theorem enterHeld_frame_noiseFloor : (s.enterHeld).frame.noiseFloor = s.frame.noiseFloor := by simp [State.enterHeld]

/-! ## noiseResult -/

@[simp] theorem noiseResult_frame_phase : (s.noiseResult ax b bank).frame.phase = s.frame.phase := by rfl
@[simp] theorem noiseResult_frame_timer : (s.noiseResult ax b bank).frame.timer = s.frame.timer := by rfl
@[simp] theorem noiseResult_frame_midDone : (s.noiseResult ax b bank).frame.midDone = s.frame.midDone := by rfl
@[simp] theorem noiseResult_frame_count : (s.noiseResult ax b bank).frame.count = s.frame.count := by rfl
@[simp] theorem noiseResult_frame_activePlan : (s.noiseResult ax b bank).frame.activePlan = s.frame.activePlan := by rfl
@[simp] theorem noiseResult_frame_pendingPlan : (s.noiseResult ax b bank).frame.pendingPlan = s.frame.pendingPlan := by rfl
@[simp] theorem noiseResult_frame_outcomes : (s.noiseResult ax b bank).frame.outcomes = s.frame.outcomes := by rfl
@[simp] theorem noiseResult_frame_next : (s.noiseResult ax b bank).frame.next = s.frame.next := by rfl
@[simp] theorem noiseResult_frame_run : (s.noiseResult ax b bank).frame.run = s.frame.run := by rfl
@[simp] theorem noiseResult_frame_window : (s.noiseResult ax b bank).frame.window = s.frame.window := by rfl
@[simp] theorem noiseResult_frame_obs0 : (s.noiseResult ax b bank).frame.obs0 = s.frame.obs0 := by rfl
@[simp] theorem noiseResult_frame_obs1 : (s.noiseResult ax b bank).frame.obs1 = s.frame.obs1 := by rfl
@[simp] theorem noiseResult_frame_lastOutcomes : (s.noiseResult ax b bank).frame.lastOutcomes = s.frame.lastOutcomes := by rfl
@[simp] theorem noiseResult_frame_lastFrame : (s.noiseResult ax b bank).frame.lastFrame = s.frame.lastFrame := by rfl
@[simp] theorem noiseResult_frame_sync : (s.noiseResult ax b bank).frame.sync = s.frame.sync := by rfl
@[simp] theorem noiseResult_frame_syncTimer : (s.noiseResult ax b bank).frame.syncTimer = s.frame.syncTimer := by rfl

/-! ## handOn -/

@[simp] theorem handOn_frame_phase : (s.handOn j rd).frame.phase = s.frame.phase := by
  unfold State.handOn Frame.setObs; repeat' split
  all_goals simp
@[simp] theorem handOn_frame_timer : (s.handOn j rd).frame.timer = s.frame.timer := by
  unfold State.handOn Frame.setObs; repeat' split
  all_goals simp
@[simp] theorem handOn_frame_midDone : (s.handOn j rd).frame.midDone = s.frame.midDone := by
  unfold State.handOn Frame.setObs; repeat' split
  all_goals simp
@[simp] theorem handOn_frame_count : (s.handOn j rd).frame.count = s.frame.count := by
  unfold State.handOn Frame.setObs; repeat' split
  all_goals simp
@[simp] theorem handOn_frame_activePlan : (s.handOn j rd).frame.activePlan = s.frame.activePlan := by
  unfold State.handOn Frame.setObs; repeat' split
  all_goals simp
@[simp] theorem handOn_frame_pendingPlan : (s.handOn j rd).frame.pendingPlan = s.frame.pendingPlan := by
  unfold State.handOn Frame.setObs; repeat' split
  all_goals simp
@[simp] theorem handOn_frame_outcomes : (s.handOn j rd).frame.outcomes = s.frame.outcomes := by
  unfold State.handOn Frame.setObs; repeat' split
  all_goals simp
@[simp] theorem handOn_frame_next : (s.handOn j rd).frame.next = s.frame.next := by
  unfold State.handOn Frame.setObs; repeat' split
  all_goals simp
@[simp] theorem handOn_frame_run : (s.handOn j rd).frame.run = s.frame.run := by
  unfold State.handOn Frame.setObs; repeat' split
  all_goals simp
@[simp] theorem handOn_frame_window : (s.handOn j rd).frame.window = s.frame.window := by
  unfold State.handOn Frame.setObs; repeat' split
  all_goals simp
@[simp] theorem handOn_frame_lastOutcomes : (s.handOn j rd).frame.lastOutcomes = s.frame.lastOutcomes := by
  unfold State.handOn Frame.setObs; repeat' split
  all_goals simp
@[simp] theorem handOn_frame_lastFrame : (s.handOn j rd).frame.lastFrame = s.frame.lastFrame := by
  unfold State.handOn Frame.setObs; repeat' split
  all_goals simp
@[simp] theorem handOn_frame_sync : (s.handOn j rd).frame.sync = s.frame.sync := by
  unfold State.handOn Frame.setObs; repeat' split
  all_goals simp
@[simp] theorem handOn_frame_syncTimer : (s.handOn j rd).frame.syncTimer = s.frame.syncTimer := by
  unfold State.handOn Frame.setObs; repeat' split
  all_goals simp

/-! ## syncTaken -/

@[simp] theorem syncTaken_frame_phase : (s.syncTaken).frame.phase = s.frame.phase := by simp [State.syncTaken]
@[simp] theorem syncTaken_frame_timer : (s.syncTaken).frame.timer = s.frame.timer := by simp [State.syncTaken]
@[simp] theorem syncTaken_frame_midDone : (s.syncTaken).frame.midDone = s.frame.midDone := by simp [State.syncTaken]
@[simp] theorem syncTaken_frame_count : (s.syncTaken).frame.count = s.frame.count := by simp [State.syncTaken]
@[simp] theorem syncTaken_frame_activePlan : (s.syncTaken).frame.activePlan = s.frame.activePlan := by simp [State.syncTaken]
@[simp] theorem syncTaken_frame_pendingPlan : (s.syncTaken).frame.pendingPlan = s.frame.pendingPlan := by simp [State.syncTaken]
@[simp] theorem syncTaken_frame_outcomes : (s.syncTaken).frame.outcomes = s.frame.outcomes := by simp [State.syncTaken]
@[simp] theorem syncTaken_frame_next : (s.syncTaken).frame.next = s.frame.next := by simp [State.syncTaken]
@[simp] theorem syncTaken_frame_run : (s.syncTaken).frame.run = s.frame.run := by simp [State.syncTaken]
@[simp] theorem syncTaken_frame_window : (s.syncTaken).frame.window = s.frame.window := by simp [State.syncTaken]
@[simp] theorem syncTaken_frame_obs0 : (s.syncTaken).frame.obs0 = s.frame.obs0 := by simp [State.syncTaken]
@[simp] theorem syncTaken_frame_obs1 : (s.syncTaken).frame.obs1 = s.frame.obs1 := by simp [State.syncTaken]
@[simp] theorem syncTaken_frame_lastOutcomes : (s.syncTaken).frame.lastOutcomes = s.frame.lastOutcomes := by simp [State.syncTaken]
@[simp] theorem syncTaken_frame_lastFrame : (s.syncTaken).frame.lastFrame = s.frame.lastFrame := by simp [State.syncTaken]
@[simp] theorem syncTaken_frame_noiseAxis : (s.syncTaken).frame.noiseAxis = s.frame.noiseAxis := by simp [State.syncTaken]
@[simp] theorem syncTaken_frame_noiseBand : (s.syncTaken).frame.noiseBand = s.frame.noiseBand := by simp [State.syncTaken]
@[simp] theorem syncTaken_frame_noiseFloor : (s.syncTaken).frame.noiseFloor = s.frame.noiseFloor := by simp [State.syncTaken]

/-! ## moveStart -/

@[simp] theorem moveStart_frame_phase : (s.moveStart).frame.phase = s.frame.phase := by rfl
@[simp] theorem moveStart_frame_count : (s.moveStart).frame.count = s.frame.count := by rfl
@[simp] theorem moveStart_frame_activePlan : (s.moveStart).frame.activePlan = s.frame.activePlan := by rfl
@[simp] theorem moveStart_frame_pendingPlan : (s.moveStart).frame.pendingPlan = s.frame.pendingPlan := by rfl
@[simp] theorem moveStart_frame_outcomes : (s.moveStart).frame.outcomes = s.frame.outcomes := by rfl
@[simp] theorem moveStart_frame_next : (s.moveStart).frame.next = s.frame.next := by rfl
@[simp] theorem moveStart_frame_run : (s.moveStart).frame.run = s.frame.run := by rfl
@[simp] theorem moveStart_frame_window : (s.moveStart).frame.window = s.frame.window := by rfl
@[simp] theorem moveStart_frame_obs0 : (s.moveStart).frame.obs0 = s.frame.obs0 := by rfl
@[simp] theorem moveStart_frame_obs1 : (s.moveStart).frame.obs1 = s.frame.obs1 := by rfl
@[simp] theorem moveStart_frame_lastOutcomes : (s.moveStart).frame.lastOutcomes = s.frame.lastOutcomes := by rfl
@[simp] theorem moveStart_frame_lastFrame : (s.moveStart).frame.lastFrame = s.frame.lastFrame := by rfl
@[simp] theorem moveStart_frame_sync : (s.moveStart).frame.sync = s.frame.sync := by rfl
@[simp] theorem moveStart_frame_syncTimer : (s.moveStart).frame.syncTimer = s.frame.syncTimer := by rfl
@[simp] theorem moveStart_frame_noiseAxis : (s.moveStart).frame.noiseAxis = s.frame.noiseAxis := by rfl
@[simp] theorem moveStart_frame_noiseBand : (s.moveStart).frame.noiseBand = s.frame.noiseBand := by rfl
@[simp] theorem moveStart_frame_noiseFloor : (s.moveStart).frame.noiseFloor = s.frame.noiseFloor := by rfl

/-! ## dropPlanOf -/

@[simp] theorem dropPlanOf_frame_phase : (s.dropPlanOf p).frame.phase = s.frame.phase := by unfold State.dropPlanOf; split <;> rfl
@[simp] theorem dropPlanOf_frame_timer : (s.dropPlanOf p).frame.timer = s.frame.timer := by unfold State.dropPlanOf; split <;> rfl
@[simp] theorem dropPlanOf_frame_midDone : (s.dropPlanOf p).frame.midDone = s.frame.midDone := by unfold State.dropPlanOf; split <;> rfl
@[simp] theorem dropPlanOf_frame_count : (s.dropPlanOf p).frame.count = s.frame.count := by unfold State.dropPlanOf; split <;> rfl
@[simp] theorem dropPlanOf_frame_activePlan : (s.dropPlanOf p).frame.activePlan = s.frame.activePlan := by unfold State.dropPlanOf; split <;> rfl
@[simp] theorem dropPlanOf_frame_outcomes : (s.dropPlanOf p).frame.outcomes = s.frame.outcomes := by unfold State.dropPlanOf; split <;> rfl
@[simp] theorem dropPlanOf_frame_next : (s.dropPlanOf p).frame.next = s.frame.next := by unfold State.dropPlanOf; split <;> rfl
@[simp] theorem dropPlanOf_frame_run : (s.dropPlanOf p).frame.run = s.frame.run := by unfold State.dropPlanOf; split <;> rfl
@[simp] theorem dropPlanOf_frame_window : (s.dropPlanOf p).frame.window = s.frame.window := by unfold State.dropPlanOf; split <;> rfl
@[simp] theorem dropPlanOf_frame_obs0 : (s.dropPlanOf p).frame.obs0 = s.frame.obs0 := by unfold State.dropPlanOf; split <;> rfl
@[simp] theorem dropPlanOf_frame_obs1 : (s.dropPlanOf p).frame.obs1 = s.frame.obs1 := by unfold State.dropPlanOf; split <;> rfl
@[simp] theorem dropPlanOf_frame_lastOutcomes : (s.dropPlanOf p).frame.lastOutcomes = s.frame.lastOutcomes := by unfold State.dropPlanOf; split <;> rfl
@[simp] theorem dropPlanOf_frame_lastFrame : (s.dropPlanOf p).frame.lastFrame = s.frame.lastFrame := by unfold State.dropPlanOf; split <;> rfl
@[simp] theorem dropPlanOf_frame_sync : (s.dropPlanOf p).frame.sync = s.frame.sync := by unfold State.dropPlanOf; split <;> rfl
@[simp] theorem dropPlanOf_frame_syncTimer : (s.dropPlanOf p).frame.syncTimer = s.frame.syncTimer := by unfold State.dropPlanOf; split <;> rfl
@[simp] theorem dropPlanOf_frame_noiseAxis : (s.dropPlanOf p).frame.noiseAxis = s.frame.noiseAxis := by unfold State.dropPlanOf; split <;> rfl
@[simp] theorem dropPlanOf_frame_noiseBand : (s.dropPlanOf p).frame.noiseBand = s.frame.noiseBand := by unfold State.dropPlanOf; split <;> rfl
@[simp] theorem dropPlanOf_frame_noiseFloor : (s.dropPlanOf p).frame.noiseFloor = s.frame.noiseFloor := by unfold State.dropPlanOf; split <;> rfl

/-! ## undoTask -/

@[simp] theorem undoTask_frame_phase : (s.undoTask p tk).frame.phase = s.frame.phase := by
  unfold State.undoTask; repeat' split
  all_goals simp
@[simp] theorem undoTask_frame_timer : (s.undoTask p tk).frame.timer = s.frame.timer := by
  unfold State.undoTask; repeat' split
  all_goals simp
@[simp] theorem undoTask_frame_midDone : (s.undoTask p tk).frame.midDone = s.frame.midDone := by
  unfold State.undoTask; repeat' split
  all_goals simp
@[simp] theorem undoTask_frame_count : (s.undoTask p tk).frame.count = s.frame.count := by
  unfold State.undoTask; repeat' split
  all_goals simp
@[simp] theorem undoTask_frame_activePlan : (s.undoTask p tk).frame.activePlan = s.frame.activePlan := by
  unfold State.undoTask; repeat' split
  all_goals simp
@[simp] theorem undoTask_frame_outcomes : (s.undoTask p tk).frame.outcomes = s.frame.outcomes := by
  unfold State.undoTask; repeat' split
  all_goals simp
@[simp] theorem undoTask_frame_next : (s.undoTask p tk).frame.next = s.frame.next := by
  unfold State.undoTask; repeat' split
  all_goals simp
@[simp] theorem undoTask_frame_run : (s.undoTask p tk).frame.run = s.frame.run := by
  unfold State.undoTask; repeat' split
  all_goals simp
@[simp] theorem undoTask_frame_window : (s.undoTask p tk).frame.window = s.frame.window := by
  unfold State.undoTask; repeat' split
  all_goals simp
@[simp] theorem undoTask_frame_obs0 : (s.undoTask p tk).frame.obs0 = s.frame.obs0 := by
  unfold State.undoTask; repeat' split
  all_goals simp
@[simp] theorem undoTask_frame_obs1 : (s.undoTask p tk).frame.obs1 = s.frame.obs1 := by
  unfold State.undoTask; repeat' split
  all_goals simp
@[simp] theorem undoTask_frame_lastOutcomes : (s.undoTask p tk).frame.lastOutcomes = s.frame.lastOutcomes := by
  unfold State.undoTask; repeat' split
  all_goals simp
@[simp] theorem undoTask_frame_lastFrame : (s.undoTask p tk).frame.lastFrame = s.frame.lastFrame := by
  unfold State.undoTask; repeat' split
  all_goals simp
@[simp] theorem undoTask_frame_sync : (s.undoTask p tk).frame.sync = s.frame.sync := by
  unfold State.undoTask; repeat' split
  all_goals simp
@[simp] theorem undoTask_frame_syncTimer : (s.undoTask p tk).frame.syncTimer = s.frame.syncTimer := by
  unfold State.undoTask; repeat' split
  all_goals simp
@[simp] theorem undoTask_frame_noiseAxis : (s.undoTask p tk).frame.noiseAxis = s.frame.noiseAxis := by
  unfold State.undoTask; repeat' split
  all_goals simp
@[simp] theorem undoTask_frame_noiseBand : (s.undoTask p tk).frame.noiseBand = s.frame.noiseBand := by
  unfold State.undoTask; repeat' split
  all_goals simp
@[simp] theorem undoTask_frame_noiseFloor : (s.undoTask p tk).frame.noiseFloor = s.frame.noiseFloor := by
  unfold State.undoTask; repeat' split
  all_goals simp

/-! ## takeSetting -/

@[simp] theorem takeSetting_frame_phase : (s.takeSetting w).frame.phase = s.frame.phase := by unfold State.takeSetting; dsimp only; split <;> simp
@[simp] theorem takeSetting_frame_timer : (s.takeSetting w).frame.timer = s.frame.timer := by unfold State.takeSetting; dsimp only; split <;> simp
@[simp] theorem takeSetting_frame_midDone : (s.takeSetting w).frame.midDone = s.frame.midDone := by unfold State.takeSetting; dsimp only; split <;> simp
@[simp] theorem takeSetting_frame_count : (s.takeSetting w).frame.count = s.frame.count := by unfold State.takeSetting; dsimp only; split <;> simp
@[simp] theorem takeSetting_frame_activePlan : (s.takeSetting w).frame.activePlan = s.frame.activePlan := by unfold State.takeSetting; dsimp only; split <;> simp
@[simp] theorem takeSetting_frame_pendingPlan : (s.takeSetting w).frame.pendingPlan = s.frame.pendingPlan := by unfold State.takeSetting; dsimp only; split <;> simp
@[simp] theorem takeSetting_frame_outcomes : (s.takeSetting w).frame.outcomes = s.frame.outcomes := by unfold State.takeSetting; dsimp only; split <;> simp
@[simp] theorem takeSetting_frame_next : (s.takeSetting w).frame.next = s.frame.next := by unfold State.takeSetting; dsimp only; split <;> simp
@[simp] theorem takeSetting_frame_run : (s.takeSetting w).frame.run = s.frame.run := by unfold State.takeSetting; dsimp only; split <;> simp
@[simp] theorem takeSetting_frame_window : (s.takeSetting w).frame.window = s.frame.window := by unfold State.takeSetting; dsimp only; split <;> simp
@[simp] theorem takeSetting_frame_obs0 : (s.takeSetting w).frame.obs0 = s.frame.obs0 := by unfold State.takeSetting; dsimp only; split <;> simp
@[simp] theorem takeSetting_frame_obs1 : (s.takeSetting w).frame.obs1 = s.frame.obs1 := by unfold State.takeSetting; dsimp only; split <;> simp
@[simp] theorem takeSetting_frame_lastOutcomes : (s.takeSetting w).frame.lastOutcomes = s.frame.lastOutcomes := by unfold State.takeSetting; dsimp only; split <;> simp
@[simp] theorem takeSetting_frame_lastFrame : (s.takeSetting w).frame.lastFrame = s.frame.lastFrame := by unfold State.takeSetting; dsimp only; split <;> simp
@[simp] theorem takeSetting_frame_noiseAxis : (s.takeSetting w).frame.noiseAxis = s.frame.noiseAxis := by unfold State.takeSetting; dsimp only; split <;> simp
@[simp] theorem takeSetting_frame_noiseBand : (s.takeSetting w).frame.noiseBand = s.frame.noiseBand := by unfold State.takeSetting; dsimp only; split <;> simp
@[simp] theorem takeSetting_frame_noiseFloor : (s.takeSetting w).frame.noiseFloor = s.frame.noiseFloor := by unfold State.takeSetting; dsimp only; split <;> simp

/-! ## frameEnd -/

@[simp] theorem frameEnd_frame_timer : (s.frameEnd).frame.timer = s.frame.timer := by unfold State.frameEnd; dsimp only; split <;> simp
@[simp] theorem frameEnd_frame_midDone : (s.frameEnd).frame.midDone = s.frame.midDone := by unfold State.frameEnd; dsimp only; split <;> simp
@[simp] theorem frameEnd_frame_count : (s.frameEnd).frame.count = s.frame.count := by unfold State.frameEnd; dsimp only; split <;> simp
@[simp] theorem frameEnd_frame_activePlan : (s.frameEnd).frame.activePlan = s.frame.activePlan := by unfold State.frameEnd; dsimp only; split <;> simp
@[simp] theorem frameEnd_frame_pendingPlan : (s.frameEnd).frame.pendingPlan = s.frame.pendingPlan := by unfold State.frameEnd; dsimp only; split <;> simp
@[simp] theorem frameEnd_frame_outcomes : (s.frameEnd).frame.outcomes = s.frame.outcomes := by unfold State.frameEnd; dsimp only; split <;> simp
@[simp] theorem frameEnd_frame_next : (s.frameEnd).frame.next = s.frame.next := by unfold State.frameEnd; dsimp only; split <;> simp
@[simp] theorem frameEnd_frame_window : (s.frameEnd).frame.window = s.frame.window := by unfold State.frameEnd; dsimp only; split <;> simp
@[simp] theorem frameEnd_frame_obs0 : (s.frameEnd).frame.obs0 = s.frame.obs0 := by unfold State.frameEnd; dsimp only; split <;> simp
@[simp] theorem frameEnd_frame_obs1 : (s.frameEnd).frame.obs1 = s.frame.obs1 := by unfold State.frameEnd; dsimp only; split <;> simp
@[simp] theorem frameEnd_frame_noiseAxis : (s.frameEnd).frame.noiseAxis = s.frame.noiseAxis := by unfold State.frameEnd; dsimp only; split <;> simp
@[simp] theorem frameEnd_frame_noiseBand : (s.frameEnd).frame.noiseBand = s.frame.noiseBand := by unfold State.frameEnd; dsimp only; split <;> simp
@[simp] theorem frameEnd_frame_noiseFloor : (s.frameEnd).frame.noiseFloor = s.frame.noiseFloor := by unfold State.frameEnd; dsimp only; split <;> simp

/-! ## endSlot -/

@[simp] theorem endSlot_frame_timer : (s.endSlot n o).frame.timer = s.frame.timer := by unfold State.endSlot; dsimp only; split <;> simp
@[simp] theorem endSlot_frame_midDone : (s.endSlot n o).frame.midDone = s.frame.midDone := by unfold State.endSlot; dsimp only; split <;> simp
@[simp] theorem endSlot_frame_count : (s.endSlot n o).frame.count = s.frame.count := by unfold State.endSlot; dsimp only; split <;> simp
@[simp] theorem endSlot_frame_activePlan : (s.endSlot n o).frame.activePlan = s.frame.activePlan := by unfold State.endSlot; dsimp only; split <;> simp
@[simp] theorem endSlot_frame_pendingPlan : (s.endSlot n o).frame.pendingPlan = s.frame.pendingPlan := by unfold State.endSlot; dsimp only; split <;> simp
@[simp] theorem endSlot_frame_next : (s.endSlot n o).frame.next = s.frame.next := by unfold State.endSlot; dsimp only; split <;> simp
@[simp] theorem endSlot_frame_window : (s.endSlot n o).frame.window = s.frame.window := by unfold State.endSlot; dsimp only; split <;> simp
@[simp] theorem endSlot_frame_obs0 : (s.endSlot n o).frame.obs0 = s.frame.obs0 := by unfold State.endSlot; dsimp only; split <;> simp
@[simp] theorem endSlot_frame_obs1 : (s.endSlot n o).frame.obs1 = s.frame.obs1 := by unfold State.endSlot; dsimp only; split <;> simp
@[simp] theorem endSlot_frame_noiseAxis : (s.endSlot n o).frame.noiseAxis = s.frame.noiseAxis := by unfold State.endSlot; dsimp only; split <;> simp
@[simp] theorem endSlot_frame_noiseBand : (s.endSlot n o).frame.noiseBand = s.frame.noiseBand := by unfold State.endSlot; dsimp only; split <;> simp
@[simp] theorem endSlot_frame_noiseFloor : (s.endSlot n o).frame.noiseFloor = s.frame.noiseFloor := by unfold State.endSlot; dsimp only; split <;> simp

/-! ## applyGrid -/

@[simp] theorem applyGrid_frame_phase : (s.applyGrid p b now).frame.phase = s.frame.phase := by unfold State.applyGrid; dsimp only; split <;> simp
@[simp] theorem applyGrid_frame_timer : (s.applyGrid p b now).frame.timer = s.frame.timer := by unfold State.applyGrid; dsimp only; split <;> simp
@[simp] theorem applyGrid_frame_midDone : (s.applyGrid p b now).frame.midDone = s.frame.midDone := by unfold State.applyGrid; dsimp only; split <;> simp
@[simp] theorem applyGrid_frame_count : (s.applyGrid p b now).frame.count = s.frame.count := by unfold State.applyGrid; dsimp only; split <;> simp
@[simp] theorem applyGrid_frame_activePlan : (s.applyGrid p b now).frame.activePlan = s.frame.activePlan := by unfold State.applyGrid; dsimp only; split <;> simp
@[simp] theorem applyGrid_frame_pendingPlan : (s.applyGrid p b now).frame.pendingPlan = s.frame.pendingPlan := by unfold State.applyGrid; dsimp only; split <;> simp
@[simp] theorem applyGrid_frame_outcomes : (s.applyGrid p b now).frame.outcomes = s.frame.outcomes := by unfold State.applyGrid; dsimp only; split <;> simp
@[simp] theorem applyGrid_frame_next : (s.applyGrid p b now).frame.next = s.frame.next := by unfold State.applyGrid; dsimp only; split <;> simp
@[simp] theorem applyGrid_frame_run : (s.applyGrid p b now).frame.run = s.frame.run := by unfold State.applyGrid; dsimp only; split <;> simp
@[simp] theorem applyGrid_frame_window : (s.applyGrid p b now).frame.window = s.frame.window := by unfold State.applyGrid; dsimp only; split <;> simp
@[simp] theorem applyGrid_frame_obs0 : (s.applyGrid p b now).frame.obs0 = s.frame.obs0 := by unfold State.applyGrid; dsimp only; split <;> simp
@[simp] theorem applyGrid_frame_obs1 : (s.applyGrid p b now).frame.obs1 = s.frame.obs1 := by unfold State.applyGrid; dsimp only; split <;> simp
@[simp] theorem applyGrid_frame_lastOutcomes : (s.applyGrid p b now).frame.lastOutcomes = s.frame.lastOutcomes := by unfold State.applyGrid; dsimp only; split <;> simp
@[simp] theorem applyGrid_frame_lastFrame : (s.applyGrid p b now).frame.lastFrame = s.frame.lastFrame := by unfold State.applyGrid; dsimp only; split <;> simp
@[simp] theorem applyGrid_frame_sync : (s.applyGrid p b now).frame.sync = s.frame.sync := by unfold State.applyGrid; dsimp only; split <;> simp
@[simp] theorem applyGrid_frame_syncTimer : (s.applyGrid p b now).frame.syncTimer = s.frame.syncTimer := by unfold State.applyGrid; dsimp only; split <;> simp
@[simp] theorem applyGrid_frame_noiseFloor : (s.applyGrid p b now).frame.noiseFloor = s.frame.noiseFloor := by unfold State.applyGrid; dsimp only; split <;> simp

/-! ## resetMode -/

@[simp] theorem resetMode_frame_lastOutcomes : (s.resetMode p).frame.lastOutcomes = s.frame.lastOutcomes := by
  unfold State.resetMode; repeat' split
  all_goals simp
@[simp] theorem resetMode_frame_lastFrame : (s.resetMode p).frame.lastFrame = s.frame.lastFrame := by
  unfold State.resetMode; repeat' split
  all_goals simp
@[simp] theorem resetMode_frame_noiseAxis : (s.resetMode p).frame.noiseAxis = s.frame.noiseAxis := by
  unfold State.resetMode; repeat' split
  all_goals simp
@[simp] theorem resetMode_frame_noiseBand : (s.resetMode p).frame.noiseBand = s.frame.noiseBand := by
  unfold State.resetMode; repeat' split
  all_goals simp
@[simp] theorem resetMode_frame_noiseFloor : (s.resetMode p).frame.noiseFloor = s.frame.noiseFloor := by
  unfold State.resetMode; repeat' split
  all_goals simp

/-! ## untilFrame -/

@[simp] theorem untilFrame_frame_phase : (s.untilFrame d).frame.phase = s.frame.phase := by simp [State.untilFrame]
@[simp] theorem untilFrame_frame_midDone : (s.untilFrame d).frame.midDone = s.frame.midDone := by simp [State.untilFrame]
@[simp] theorem untilFrame_frame_count : (s.untilFrame d).frame.count = s.frame.count := by simp [State.untilFrame]
@[simp] theorem untilFrame_frame_activePlan : (s.untilFrame d).frame.activePlan = s.frame.activePlan := by simp [State.untilFrame]
@[simp] theorem untilFrame_frame_pendingPlan : (s.untilFrame d).frame.pendingPlan = s.frame.pendingPlan := by simp [State.untilFrame]
@[simp] theorem untilFrame_frame_outcomes : (s.untilFrame d).frame.outcomes = s.frame.outcomes := by simp [State.untilFrame]
@[simp] theorem untilFrame_frame_next : (s.untilFrame d).frame.next = s.frame.next := by simp [State.untilFrame]
@[simp] theorem untilFrame_frame_run : (s.untilFrame d).frame.run = s.frame.run := by simp [State.untilFrame]
@[simp] theorem untilFrame_frame_window : (s.untilFrame d).frame.window = s.frame.window := by simp [State.untilFrame]
@[simp] theorem untilFrame_frame_obs0 : (s.untilFrame d).frame.obs0 = s.frame.obs0 := by simp [State.untilFrame]
@[simp] theorem untilFrame_frame_obs1 : (s.untilFrame d).frame.obs1 = s.frame.obs1 := by simp [State.untilFrame]
@[simp] theorem untilFrame_frame_lastOutcomes : (s.untilFrame d).frame.lastOutcomes = s.frame.lastOutcomes := by simp [State.untilFrame]
@[simp] theorem untilFrame_frame_lastFrame : (s.untilFrame d).frame.lastFrame = s.frame.lastFrame := by simp [State.untilFrame]
@[simp] theorem untilFrame_frame_sync : (s.untilFrame d).frame.sync = s.frame.sync := by simp [State.untilFrame]
@[simp] theorem untilFrame_frame_noiseAxis : (s.untilFrame d).frame.noiseAxis = s.frame.noiseAxis := by simp [State.untilFrame]
@[simp] theorem untilFrame_frame_noiseBand : (s.untilFrame d).frame.noiseBand = s.frame.noiseBand := by simp [State.untilFrame]
@[simp] theorem untilFrame_frame_noiseFloor : (s.untilFrame d).frame.noiseFloor = s.frame.noiseFloor := by simp [State.untilFrame]
@[simp] theorem untilFrame_pins_power : (s.untilFrame d).pins.power = s.pins.power := by simp [State.untilFrame]
@[simp] theorem untilFrame_pins_resetN : (s.untilFrame d).pins.resetN = s.pins.resetN := by simp [State.untilFrame]
@[simp] theorem untilFrame_pins_driveBusy : (s.untilFrame d).pins.driveBusy = s.pins.driveBusy := by simp [State.untilFrame]
@[simp] theorem untilFrame_keys_key0 : (s.untilFrame d).keys.key0 = s.keys.key0 := by simp [State.untilFrame]
@[simp] theorem untilFrame_keys_key1 : (s.untilFrame d).keys.key1 = s.keys.key1 := by simp [State.untilFrame]
@[simp] theorem untilFrame_keys_key2 : (s.untilFrame d).keys.key2 = s.keys.key2 := by simp [State.untilFrame]
@[simp] theorem untilFrame_keys_key3 : (s.untilFrame d).keys.key3 = s.keys.key3 := by simp [State.untilFrame]
/-! ## until -/

@[simp] theorem until_frame_phase : (s.until now d).frame.phase = s.frame.phase := by simp [State.until]
@[simp] theorem until_frame_midDone : (s.until now d).frame.midDone = s.frame.midDone := by simp [State.until]
@[simp] theorem until_frame_count : (s.until now d).frame.count = s.frame.count := by simp [State.until]
@[simp] theorem until_frame_activePlan : (s.until now d).frame.activePlan = s.frame.activePlan := by simp [State.until]
@[simp] theorem until_frame_pendingPlan : (s.until now d).frame.pendingPlan = s.frame.pendingPlan := by simp [State.until]
@[simp] theorem until_frame_outcomes : (s.until now d).frame.outcomes = s.frame.outcomes := by simp [State.until]
@[simp] theorem until_frame_next : (s.until now d).frame.next = s.frame.next := by simp [State.until]
@[simp] theorem until_frame_run : (s.until now d).frame.run = s.frame.run := by simp [State.until]
@[simp] theorem until_frame_window : (s.until now d).frame.window = s.frame.window := by simp [State.until]
@[simp] theorem until_frame_obs0 : (s.until now d).frame.obs0 = s.frame.obs0 := by simp [State.until]
@[simp] theorem until_frame_obs1 : (s.until now d).frame.obs1 = s.frame.obs1 := by simp [State.until]
@[simp] theorem until_frame_lastOutcomes : (s.until now d).frame.lastOutcomes = s.frame.lastOutcomes := by simp [State.until]
@[simp] theorem until_frame_lastFrame : (s.until now d).frame.lastFrame = s.frame.lastFrame := by simp [State.until]
@[simp] theorem until_frame_sync : (s.until now d).frame.sync = s.frame.sync := by simp [State.until]
@[simp] theorem until_frame_noiseAxis : (s.until now d).frame.noiseAxis = s.frame.noiseAxis := by simp [State.until]
@[simp] theorem until_frame_noiseBand : (s.until now d).frame.noiseBand = s.frame.noiseBand := by simp [State.until]
@[simp] theorem until_frame_noiseFloor : (s.until now d).frame.noiseFloor = s.frame.noiseFloor := by simp [State.until]
@[simp] theorem until_pins_power : (s.until now d).pins.power = s.pins.power := by simp [State.until]
@[simp] theorem until_pins_resetN : (s.until now d).pins.resetN = s.pins.resetN := by simp [State.until]
@[simp] theorem until_pins_driveBusy : (s.until now d).pins.driveBusy = s.pins.driveBusy := by simp [State.until]
@[simp] theorem until_keys_key0 : (s.until now d).keys.key0 = s.keys.key0 := by simp [State.until]
@[simp] theorem until_keys_key1 : (s.until now d).keys.key1 = s.keys.key1 := by simp [State.until]
@[simp] theorem until_keys_key2 : (s.until now d).keys.key2 = s.keys.key2 := by simp [State.until]
@[simp] theorem until_keys_key3 : (s.until now d).keys.key3 = s.keys.key3 := by simp [State.until]
/-! ## untilFrame -/

@[simp] theorem untilFrame_control_mode : (s.untilFrame d).control.mode = s.control.mode := by simp [State.untilFrame]
@[simp] theorem untilFrame_control_owner : (s.untilFrame d).control.owner = s.control.owner := by simp [State.untilFrame]
@[simp] theorem untilFrame_control_reservation : (s.untilFrame d).control.reservation = s.control.reservation := by simp [State.untilFrame]
@[simp] theorem untilFrame_control_survey : (s.untilFrame d).control.survey = s.control.survey := by simp [State.untilFrame]
@[simp] theorem untilFrame_control_resumeDelay : (s.untilFrame d).control.resumeDelay = s.control.resumeDelay := by simp [State.untilFrame]
@[simp] theorem untilFrame_control_capture : (s.untilFrame d).control.capture = s.control.capture := by simp [State.untilFrame]

/-! ## until -/

@[simp] theorem until_control_mode : (s.until now d).control.mode = s.control.mode := by simp [State.until]
@[simp] theorem until_control_owner : (s.until now d).control.owner = s.control.owner := by simp [State.until]
@[simp] theorem until_control_reservation : (s.until now d).control.reservation = s.control.reservation := by simp [State.until]
@[simp] theorem until_control_survey : (s.until now d).control.survey = s.control.survey := by simp [State.until]
@[simp] theorem until_control_resumeDelay : (s.until now d).control.resumeDelay = s.control.resumeDelay := by simp [State.until]
@[simp] theorem until_control_capture : (s.until now d).control.capture = s.control.capture := by simp [State.until]

/-! ## enterSurvey -/

@[simp] theorem enterSurvey_control_resumeDelay : (s.enterSurvey).control.resumeDelay = s.control.resumeDelay := by unfold State.enterSurvey; split <;> (try split) <;> simp
@[simp] theorem enterSurvey_control_autoResume : (s.enterSurvey).control.autoResume = s.control.autoResume := by unfold State.enterSurvey; split <;> (try split) <;> simp
@[simp] theorem enterSurvey_control_capture : (s.enterSurvey).control.capture = s.control.capture := by unfold State.enterSurvey; split <;> (try split) <;> simp

/-! ## frameStart -/

@[simp] theorem frameStart_control_resumeDelay : (s.frameStart).control.resumeDelay = s.control.resumeDelay := by simp [State.frameStart]
@[simp] theorem frameStart_control_autoResume : (s.frameStart).control.autoResume = s.control.autoResume := by simp [State.frameStart]
@[simp] theorem frameStart_control_capture : (s.frameStart).control.capture = s.control.capture := by simp [State.frameStart]

/-! ## resume -/

@[simp] theorem resume_control_resumeDelay : (s.resume).control.resumeDelay = s.control.resumeDelay := by simp [State.resume]
@[simp] theorem resume_control_autoResume : (s.resume).control.autoResume = s.control.autoResume := by simp [State.resume]
@[simp] theorem resume_control_capture : (s.resume).control.capture = s.control.capture := by simp [State.resume]

/-! ## startAutoResume -/

@[simp] theorem startAutoResume_control_mode : (s.startAutoResume).control.mode = s.control.mode := by rfl
@[simp] theorem startAutoResume_control_owner : (s.startAutoResume).control.owner = s.control.owner := by rfl
@[simp] theorem startAutoResume_control_reservation : (s.startAutoResume).control.reservation = s.control.reservation := by rfl
@[simp] theorem startAutoResume_control_survey : (s.startAutoResume).control.survey = s.control.survey := by rfl
@[simp] theorem startAutoResume_control_resumeDelay : (s.startAutoResume).control.resumeDelay = s.control.resumeDelay := by rfl
@[simp] theorem startAutoResume_control_capture : (s.startAutoResume).control.capture = s.control.capture := by rfl

/-! ## enterHeld -/

@[simp] theorem enterHeld_control_reservation : (s.enterHeld).control.reservation = s.control.reservation := by simp [State.enterHeld]
@[simp] theorem enterHeld_control_survey : (s.enterHeld).control.survey = s.control.survey := by simp [State.enterHeld]
@[simp] theorem enterHeld_control_resumeDelay : (s.enterHeld).control.resumeDelay = s.control.resumeDelay := by simp [State.enterHeld]
@[simp] theorem enterHeld_control_capture : (s.enterHeld).control.capture = s.control.capture := by simp [State.enterHeld]

/-! ## storeSurvey -/

@[simp] theorem storeSurvey_control_mode : (s.storeSurvey x y).control.mode = s.control.mode := by rfl
@[simp] theorem storeSurvey_control_owner : (s.storeSurvey x y).control.owner = s.control.owner := by rfl
@[simp] theorem storeSurvey_control_reservation : (s.storeSurvey x y).control.reservation = s.control.reservation := by rfl
@[simp] theorem storeSurvey_control_resumeDelay : (s.storeSurvey x y).control.resumeDelay = s.control.resumeDelay := by rfl
@[simp] theorem storeSurvey_control_autoResume : (s.storeSurvey x y).control.autoResume = s.control.autoResume := by rfl
@[simp] theorem storeSurvey_control_capture : (s.storeSurvey x y).control.capture = s.control.capture := by rfl

/-! ## handOn -/

@[simp] theorem handOn_control_mode : (s.handOn j rd).control.mode = s.control.mode := by
  unfold State.handOn; repeat' split
  all_goals simp
@[simp] theorem handOn_control_owner : (s.handOn j rd).control.owner = s.control.owner := by
  unfold State.handOn; repeat' split
  all_goals simp
@[simp] theorem handOn_control_reservation : (s.handOn j rd).control.reservation = s.control.reservation := by
  unfold State.handOn; repeat' split
  all_goals simp
@[simp] theorem handOn_control_resumeDelay : (s.handOn j rd).control.resumeDelay = s.control.resumeDelay := by
  unfold State.handOn; repeat' split
  all_goals simp
@[simp] theorem handOn_control_autoResume : (s.handOn j rd).control.autoResume = s.control.autoResume := by
  unfold State.handOn; repeat' split
  all_goals simp
@[simp] theorem handOn_control_capture : (s.handOn j rd).control.capture = s.control.capture := by
  unfold State.handOn; repeat' split
  all_goals simp

/-! ## endSurvey -/

@[simp] theorem endSurvey_control_reservation : (s.endSurvey ow r).control.reservation = s.control.reservation := by simp [State.endSurvey, State.backToScanning]
@[simp] theorem endSurvey_control_resumeDelay : (s.endSurvey ow r).control.resumeDelay = s.control.resumeDelay := by simp [State.endSurvey, State.backToScanning]
@[simp] theorem endSurvey_control_capture : (s.endSurvey ow r).control.capture = s.control.capture := by simp [State.endSurvey, State.backToScanning]

/-! ## surveyFrameEnd -/

@[simp] theorem surveyFrameEnd_control_reservation : (s.surveyFrameEnd).control.reservation = s.control.reservation := by
  unfold State.surveyFrameEnd; repeat' split
  all_goals simp
@[simp] theorem surveyFrameEnd_control_resumeDelay : (s.surveyFrameEnd).control.resumeDelay = s.control.resumeDelay := by
  unfold State.surveyFrameEnd; repeat' split
  all_goals simp

/-! ## dropReservation -/

@[simp] theorem dropReservation_control_mode : (s.dropReservation).control.mode = s.control.mode := by rfl
@[simp] theorem dropReservation_control_owner : (s.dropReservation).control.owner = s.control.owner := by rfl
@[simp] theorem dropReservation_control_survey : (s.dropReservation).control.survey = s.control.survey := by rfl
@[simp] theorem dropReservation_control_resumeDelay : (s.dropReservation).control.resumeDelay = s.control.resumeDelay := by rfl
@[simp] theorem dropReservation_control_autoResume : (s.dropReservation).control.autoResume = s.control.autoResume := by rfl
@[simp] theorem dropReservation_control_capture : (s.dropReservation).control.capture = s.control.capture := by rfl

/-! ## dropReservationOf -/

@[simp] theorem dropReservationOf_control_mode : (s.dropReservationOf p).control.mode = s.control.mode := by unfold State.dropReservationOf; split <;> rfl
@[simp] theorem dropReservationOf_control_owner : (s.dropReservationOf p).control.owner = s.control.owner := by unfold State.dropReservationOf; split <;> rfl
@[simp] theorem dropReservationOf_control_survey : (s.dropReservationOf p).control.survey = s.control.survey := by unfold State.dropReservationOf; split <;> rfl
@[simp] theorem dropReservationOf_control_resumeDelay : (s.dropReservationOf p).control.resumeDelay = s.control.resumeDelay := by unfold State.dropReservationOf; split <;> rfl
@[simp] theorem dropReservationOf_control_autoResume : (s.dropReservationOf p).control.autoResume = s.control.autoResume := by unfold State.dropReservationOf; split <;> rfl
@[simp] theorem dropReservationOf_control_capture : (s.dropReservationOf p).control.capture = s.control.capture := by unfold State.dropReservationOf; split <;> rfl

/-! ## undoTask -/

@[simp] theorem undoTask_control_resumeDelay : (s.undoTask p tk).control.resumeDelay = s.control.resumeDelay := by
  unfold State.undoTask; repeat' split
  all_goals simp [State.backToScanning]
@[simp] theorem undoTask_control_capture : (s.undoTask p tk).control.capture = s.control.capture := by
  unfold State.undoTask; repeat' split
  all_goals simp [State.backToScanning]

/-! ## cancelWaiting -/

@[simp] theorem cancelWaiting_control_mode : (s.cancelWaiting).control.mode = s.control.mode := by unfold State.cancelWaiting; split <;> simp
@[simp] theorem cancelWaiting_control_owner : (s.cancelWaiting).control.owner = s.control.owner := by unfold State.cancelWaiting; split <;> simp
@[simp] theorem cancelWaiting_control_survey : (s.cancelWaiting).control.survey = s.control.survey := by unfold State.cancelWaiting; split <;> simp
@[simp] theorem cancelWaiting_control_resumeDelay : (s.cancelWaiting).control.resumeDelay = s.control.resumeDelay := by unfold State.cancelWaiting; split <;> simp
@[simp] theorem cancelWaiting_control_autoResume : (s.cancelWaiting).control.autoResume = s.control.autoResume := by unfold State.cancelWaiting; split <;> simp
@[simp] theorem cancelWaiting_control_capture : (s.cancelWaiting).control.capture = s.control.capture := by unfold State.cancelWaiting; split <;> simp

/-! ## beginHold -/

@[simp] theorem beginHold_control_reservation : (s.beginHold p delay).control.reservation = s.control.reservation := by simp [State.beginHold]
@[simp] theorem beginHold_control_autoResume : (s.beginHold p delay).control.autoResume = s.control.autoResume := by simp [State.beginHold]
@[simp] theorem beginHold_control_capture : (s.beginHold p delay).control.capture = s.control.capture := by simp [State.beginHold]

/-! ## emptyCapture -/

@[simp] theorem emptyCapture_control_mode : (s.emptyCapture).control.mode = s.control.mode := by rfl
@[simp] theorem emptyCapture_control_owner : (s.emptyCapture).control.owner = s.control.owner := by rfl
@[simp] theorem emptyCapture_control_reservation : (s.emptyCapture).control.reservation = s.control.reservation := by rfl
@[simp] theorem emptyCapture_control_survey : (s.emptyCapture).control.survey = s.control.survey := by rfl
@[simp] theorem emptyCapture_control_resumeDelay : (s.emptyCapture).control.resumeDelay = s.control.resumeDelay := by rfl
@[simp] theorem emptyCapture_control_autoResume : (s.emptyCapture).control.autoResume = s.control.autoResume := by rfl

/-! ## resetCapture -/

@[simp] theorem resetCapture_control_mode : (s.resetCapture p).control.mode = s.control.mode := by unfold State.resetCapture; split <;> rfl
@[simp] theorem resetCapture_control_owner : (s.resetCapture p).control.owner = s.control.owner := by unfold State.resetCapture; split <;> rfl
@[simp] theorem resetCapture_control_reservation : (s.resetCapture p).control.reservation = s.control.reservation := by unfold State.resetCapture; split <;> rfl
@[simp] theorem resetCapture_control_survey : (s.resetCapture p).control.survey = s.control.survey := by unfold State.resetCapture; split <;> rfl
@[simp] theorem resetCapture_control_resumeDelay : (s.resetCapture p).control.resumeDelay = s.control.resumeDelay := by unfold State.resetCapture; split <;> rfl
@[simp] theorem resetCapture_control_autoResume : (s.resetCapture p).control.autoResume = s.control.autoResume := by unfold State.resetCapture; split <;> rfl

/-! ## backToScanning -/

@[simp] theorem backToScanning_control_mode : s.backToScanning.control.mode = .scanning := rfl
@[simp] theorem backToScanning_control_owner : s.backToScanning.control.owner = none := rfl
@[simp] theorem backToScanning_control_survey : s.backToScanning.control.survey = none := rfl
@[simp] theorem backToScanning_control_autoResume : s.backToScanning.control.autoResume = none := rfl
@[simp] theorem backToScanning_control_reservation : s.backToScanning.control.reservation = s.control.reservation := rfl
@[simp] theorem backToScanning_control_resumeDelay : s.backToScanning.control.resumeDelay = s.control.resumeDelay := rfl
@[simp] theorem backToScanning_control_capture : s.backToScanning.control.capture = s.control.capture := rfl

/-! ## What the frame start and the entry to HELD set -/

@[simp] theorem applyPlan_frame_pendingPlan : s.applyPlan.frame.pendingPlan = none := by
  unfold State.applyPlan; split <;> simp_all
theorem applyPlan_frame_activePlan : s.applyPlan.frame.activePlan = (s.frame.pendingPlan.map (·.plan)).getD s.frame.activePlan := by
  unfold State.applyPlan; split <;> simp_all
@[simp] theorem frameStart_frame_phase : s.frameStart.frame.phase = .running := by simp [State.frameStart]
@[simp] theorem frameStart_frame_timer : s.frameStart.frame.timer = 0 := by simp [State.frameStart]
@[simp] theorem frameStart_frame_midDone : s.frameStart.frame.midDone = false := by simp [State.frameStart]
@[simp] theorem frameStart_frame_count : s.frameStart.frame.count = s.frame.count + 1 := by simp [State.frameStart]
@[simp] theorem frameStart_frame_run : s.frameStart.frame.run = .none := by simp [State.frameStart]
@[simp] theorem frameStart_frame_pendingPlan : s.frameStart.frame.pendingPlan = none := by simp [State.frameStart]
@[simp] theorem frameStart_frame_obs0 : s.frameStart.frame.obs0 = noObs := by simp [State.frameStart]
@[simp] theorem frameStart_frame_obs1 : s.frameStart.frame.obs1 = noObs := by simp [State.frameStart]
theorem frameStart_frame_activePlan :
    s.frameStart.frame.activePlan = (s.frame.pendingPlan.map (·.plan)).getD s.frame.activePlan := by
  simp [State.frameStart, applyPlan_frame_activePlan]
@[simp] theorem resume_frame_phase : s.resume.frame.phase = .running := by simp [State.resume]
@[simp] theorem resume_frame_run : s.resume.frame.run = .none := by simp [State.resume]
@[simp] theorem resume_frame_pendingPlan : s.resume.frame.pendingPlan = none := by simp [State.resume]
@[simp] theorem enterHeld_frame_phase : s.enterHeld.frame.phase = .stopped := by simp [State.enterHeld, State.stopFrames]
@[simp] theorem enterHeld_frame_syncTimer : s.enterHeld.frame.syncTimer = none := by simp [State.enterHeld, State.stopFrames]
@[simp] theorem enterHeld_control_mode : s.enterHeld.control.mode = .held := by simp [State.enterHeld]
@[simp] theorem enterHeld_control_owner : s.enterHeld.control.owner = s.control.owner := by simp [State.enterHeld]
@[simp] theorem handOn_survey_isSome : (s.handOn j rd).control.survey.isSome = s.control.survey.isSome := by
  unfold State.handOn; repeat' split
  all_goals simp [State.storeSurvey]

/-! ## Which timers run after time has passed -/

@[simp] theorem elapse_startup_isSome : (s.elapse d).pins.startup.isSome = s.pins.startup.isSome := by simp [State.elapse]
@[simp] theorem elapse_autoResume_isSome : (s.elapse d).control.autoResume.isSome = s.control.autoResume.isSome := by
  simp [State.elapse]
@[simp] theorem elapse_syncTimer_isSome : (s.elapse d).frame.syncTimer.isSome = s.frame.syncTimer.isSome := by
  simp [State.elapse]
@[simp] theorem untilFrame_startup_isSome : (s.untilFrame d).pins.startup.isSome = s.pins.startup.isSome := by
  simp [State.untilFrame]
@[simp] theorem untilFrame_autoResume_isSome : (s.untilFrame d).control.autoResume.isSome = s.control.autoResume.isSome := by
  simp [State.untilFrame]
@[simp] theorem untilFrame_syncTimer_isSome : (s.untilFrame d).frame.syncTimer.isSome = s.frame.syncTimer.isSome := by
  simp [State.untilFrame]
@[simp] theorem until_startup_isSome : (s.until now d).pins.startup.isSome = s.pins.startup.isSome := by simp [State.until]
@[simp] theorem until_autoResume_isSome : (s.until now d).control.autoResume.isSome = s.control.autoResume.isSome := by
  simp [State.until]
@[simp] theorem until_syncTimer_isSome : (s.until now d).frame.syncTimer.isSome = s.frame.syncTimer.isSome := by
  simp [State.until]

/-! ## The application of pending changes, and Mode Control at a frame start -/

/-- With no change pending, every item's change is absent (R141). -/
theorem takers_any_false {w : Waiting} (h : w.any = false) : w = noWaiting := by
  obtain ⟨a, b, c, d, e, f⟩ := w
  obtain ⟨⟨lb⟩, hb⟩ := b
  obtain ⟨⟨le⟩, he⟩ := e
  simp only [Waiting.any, Waiting.takers, List.any_append, List.any_cons, List.any_nil, Bool.or_false, Bool.or_eq_false_iff,
    Option.isSome_map, List.any_map, Vector.toList] at h
  obtain ⟨⟨⟨⟨h1, h2⟩, h3, h4⟩, h5⟩, h6⟩ := h
  simp only [Option.isSome_eq_false_iff, Option.isNone_iff_eq_none] at h1 h3 h4 h6
  subst h1 h3 h4 h6
  simp only [List.size_toArray] at hb he
  have e1 : lb = [none, none, none, none] := by
    match lb, hb, h2 with
    | [x, y, z, w], _, h2 => simpa [Function.comp_def] using h2
  have e2 : le = [none, none, none, none, none, none, none] := by
    match le, he, h5 with
    | [x, y, z, w, u, v, t], _, h5 => simpa [Function.comp_def] using h5
  subst e1 e2
  rfl

/-- No change is pending after an application (R141). -/
@[simp] theorem applyWaiting_waiting (s : State) : s.applyWaiting.waiting = noWaiting := by
  unfold State.applyWaiting
  split
  · simp
  · next h => exact takers_any_false (by simpa using h)


/-- A frame start changes Mode Control by the survey's step alone (R154, R157). -/
theorem frameStart_control (s : State) : s.frameStart.control = s.enterSurvey.control := by
  simp only [State.frameStart, tickBoth_control, layOut_control]
  unfold State.enterSurvey
  simp only [expireAfterChange_control, applyWaiting_control, applyPlan_control]
  cases s.control.mode <;> simp
  cases s.control.reservation <;> simp

/-! ## The frame phase after a frame end (R11, R17) -/

@[simp] theorem enterTail_frame_phase : s.enterTail.frame.phase = .tail := rfl
@[simp] theorem enterTail_frame_run : s.enterTail.frame.run = .none := rfl

/-- A frame end enters the TAIL, or STOPPED with the mode HELD. -/
theorem frameEnd_frame_phase : s.frameEnd.frame.phase = if s.control.mode = .holding then .stopped else .tail := by
  unfold State.frameEnd
  simp only [enterTail_control, trackEngine_control]
  cases s.control.mode <;> simp

/-- A frame end taken outside HELD leaves the mode HELD exactly when it was HOLDING (R150). -/
theorem frameEnd_held (h : s.control.mode ≠ .held) : s.frameEnd.control.mode = .held ↔ s.control.mode = .holding := by
  unfold State.frameEnd
  simp only [enterTail_control, trackEngine_control]
  cases hm : s.control.mode <;> simp_all
  unfold State.surveyFrameEnd
  repeat' split
  all_goals simp_all [State.endSurvey]

/-- The same of a truncation (R15). -/
theorem truncate_frame_phase : s.truncate.frame.phase = if s.control.mode = .holding then .stopped else .tail := by
  unfold State.truncate
  exact frameEnd_frame_phase _

/-- The same of a truncation (R14). -/
theorem truncate_held (h : s.control.mode ≠ .held) : s.truncate.control.mode = .held ↔ s.control.mode = .holding := by
  unfold State.truncate
  exact frameEnd_held _ h

/-- A truncation that does not enter HELD leaves the frame in its TAIL. -/
theorem truncate_tail (h : s.truncate.control.mode ≠ .held) : s.truncate.frame.phase = .tail := by
  rw [truncate_frame_phase]
  split
  · next hm => exact absurd ((truncate_held s (by simp [hm])).2 hm) h
  · rfl

/-! ## Set Grid (R145) and a taken settings request (R140, R142) -/

@[simp] theorem applyGrid_pending (x y : Nat) : (s.applyGrid p x y).pending = s.pending := by simp [State.applyGrid]
@[simp] theorem applyGrid_pins (x y : Nat) : (s.applyGrid p x y).pins = s.pins := by simp [State.applyGrid]
@[simp] theorem applyGrid_tool0 (x y : Nat) : (s.applyGrid p x y).tool0 = s.tool0 := by simp [State.applyGrid]
@[simp] theorem applyGrid_tool1 (x y : Nat) : (s.applyGrid p x y).tool1 = s.tool1 := by simp [State.applyGrid]
@[simp] theorem applyGrid_ring (x y : Nat) : (s.applyGrid p x y).ring = s.ring := by simp [State.applyGrid]
@[simp] theorem applyGrid_nextSeq (x y : Nat) : (s.applyGrid p x y).nextSeq = s.nextSeq := by simp [State.applyGrid]
@[simp] theorem applyGrid_snap0 (x y : Nat) : (s.applyGrid p x y).snap0 = s.snap0 := by simp [State.applyGrid]
@[simp] theorem applyGrid_snap1 (x y : Nat) : (s.applyGrid p x y).snap1 = s.snap1 := by simp [State.applyGrid]
@[simp] theorem applyGrid_waiting (x y : Nat) : (s.applyGrid p x y).waiting = s.waiting := by simp [State.applyGrid]
@[simp] theorem applyGrid_control (x y : Nat) : (s.applyGrid p x y).control = s.control := by simp [State.applyGrid]
@[simp] theorem applyGrid_keys (x y : Nat) : (s.applyGrid p x y).keys = s.keys := by simp [State.applyGrid]

/-- In HELD no change is pending after a taken settings request. -/
theorem takeSetting_in_held (w : Waiting) (h : s.control.mode = .held) : (s.takeSetting w).waiting = noWaiting := by
  simp [State.takeSetting, h]

/-- Outside HELD the change waits. -/
theorem takeSetting_waits (w : Waiting) (h : s.control.mode ≠ .held) : s.takeSetting w = { s with waiting := w } := by
  simp [State.takeSetting, h]

/-! ## What the mode requests leave of a reservation and of the capture -/

@[simp] theorem cancelWaiting_control_reservation : s.cancelWaiting.control.reservation = none := by
  unfold State.cancelWaiting
  split
  · simp [State.dropReservation]
  · assumption
@[simp] theorem dropReservationOf_control_reservation :
    (s.dropReservationOf p).control.reservation
      = if s.control.reservation.map (·.port) = some p then none else s.control.reservation := by
  unfold State.dropReservationOf
  split <;> rfl
@[simp] theorem resetCapture_control_capture :
    (s.resetCapture p).control.capture = if s.control.capture.map (·.owner) = some p then none else s.control.capture := by
  unfold State.resetCapture
  split <;> rfl

/-- What a Set Grid leaves at a port (R120, R143). -/
theorem port_applyGrid (x y : Nat) (q : Port) : (s.applyGrid p x y).port q
    = { s.port q with
        view := (s.port q).view.within (span x) (span y)
        events := if q = p.other ∧ s.control.mode ≠ .starting then Event.addTo .settingsChanged (s.port q).events
          else (s.port q).events } := by
  unfold State.applyGrid
  rw [port_raise]
  cases p <;> cases q <;> by_cases h : s.control.mode = .starting <;>
    simp_all [Port.other, State.port, State.resetSearch, Settings.xSpan, Settings.ySpan]
@[simp] theorem applyGrid_port_cursor (x y : Nat) (q : Port) : ((s.applyGrid p x y).port q).cursor = (s.port q).cursor := by rw [port_applyGrid]
@[simp] theorem applyGrid_port_watermark (x y : Nat) (q : Port) : ((s.applyGrid p x y).port q).watermark = (s.port q).watermark := by rw [port_applyGrid]
@[simp] theorem applyGrid_port_mask (x y : Nat) (q : Port) : ((s.applyGrid p x y).port q).mask = (s.port q).mask := by rw [port_applyGrid]
@[simp] theorem applyGrid_port_tickPoint (x y : Nat) (q : Port) : ((s.applyGrid p x y).port q).tickPoint = (s.port q).tickPoint := by rw [port_applyGrid]
@[simp] theorem applyGrid_port_tickPending (x y : Nat) (q : Port) : ((s.applyGrid p x y).port q).tickPending = (s.port q).tickPending := by rw [port_applyGrid]
@[simp] theorem applyGrid_port_list0 (x y : Nat) (q : Port) : ((s.applyGrid p x y).port q).list0 = (s.port q).list0 := by rw [port_applyGrid]
@[simp] theorem applyGrid_port_list1 (x y : Nat) (q : Port) : ((s.applyGrid p x y).port q).list1 = (s.port q).list1 := by rw [port_applyGrid]
@[simp] theorem applyGrid_port_slot (x y : Nat) (q : Port) : ((s.applyGrid p x y).port q).slot = (s.port q).slot := by rw [port_applyGrid]
@[simp] theorem applyGrid_port_store (x y : Nat) (q : Port) : ((s.applyGrid p x y).port q).store = (s.port q).store := by rw [port_applyGrid]
@[simp] theorem applyGrid_port_sent (x y : Nat) (q : Port) : ((s.applyGrid p x y).port q).sent = (s.port q).sent := by rw [port_applyGrid]

end Sys2Proof.Machine
end

