-- ==== Sys2Proof/Laws/Mode.lean ====
section
/-! SUPPORT. What the shared operations do to Mode Control's invariant. -/

namespace Sys2Proof.Machine

/-- `t` agrees with `s` in all that ModeOk reads, or only stops what it lets stop. -/
def ModeSame (s t : State) : Prop :=
  t.control.mode = s.control.mode ∧ t.control.owner.isSome = s.control.owner.isSome ∧
  t.control.survey.isSome = s.control.survey.isSome ∧ (t.control.reservation.isSome = true → s.control.reservation.isSome = true) ∧
  t.frame.phase = s.frame.phase ∧ (t.frame.run ≠ .none → s.frame.run ≠ .none ∨ s.frame.phase = .running) ∧
  (t.pins.startup.isSome = true → s.pins.startup.isSome = true) ∧ (t.control.autoResume.isSome = true → s.control.autoResume.isSome = true) ∧
  (s.control.mode = .held → t.waiting = s.waiting ∨ t.waiting = noWaiting) ∧ (s.control.capture = none → t.control.capture = none)

theorem ModeOk.same {s t : State} (h : ModeSame s t) (hs : ModeOk s) : ModeOk t := by
  obtain ⟨h1, h2, h3, h4, h5, h6, h7, h8, h9, h10⟩ := h
  obtain ⟨a, b, c, d, e, f, g, i, j⟩ := hs
  refine ⟨by rw [h1, h2]; exact a, by rw [h1, h3]; exact b, fun h => h1 ▸ c (h4 h), by rw [h1, h5]; exact d,
    fun h => h5 ▸ (h6 h).elim e id, fun h => h1 ▸ f (h7 h), fun h => h1 ▸ g (h8 h), fun h => by rw [h1] at h; exact (h9 h).elim (fun e => e.trans (i h)) id, ?_⟩
  intro h
  apply h10
  apply j
  rw [h3] at h
  simp only [Bool.or_eq_true] at h ⊢
  exact h.imp h4 id

theorem ModeOk.frameStart {s : State} (h1 : s.control.owner.isSome = s.control.mode.owned)
    (h2 : s.control.survey.isSome = decide (s.control.mode = .survey)) (h3 : s.control.reservation.isSome = true → s.control.mode = .scanning)
    (h4 : s.control.mode ≠ .starting ∧ s.control.mode ≠ .held) (h5 : s.pins.startup = none) (h6 : s.control.autoResume = none)
    (h7 : (s.control.reservation.isSome || s.control.survey.isSome) = true → s.control.capture = none) : ModeOk s.frameStart := by
  have key : ModeOk { s with control := s.enterSurvey.control, frame := s.frameStart.frame, waiting := noWaiting } := by
    unfold State.enterSurvey
    constructor <;> cases hh : s.control.mode <;> simp_all [Mode.owned, Mode.still] <;>
      (cases hr : s.control.reservation <;> simp_all [Mode.owned, Mode.still])
  refine key.same ⟨?_, ?_, ?_, ?_, ?_, ?_, ?_, ?_, ?_, ?_⟩ <;> (try rw [frameStart_control]) <;> simp
  intro h
  simp [State.frameStart]


theorem ModeOk.moving {s : State} (hs : ModeOk s) (h : s.frame.phase ≠ .stopped) :
    (s.control.mode ≠ .starting ∧ s.control.mode ≠ .held) ∧ s.pins.startup = none ∧ s.control.autoResume = none := by
  have hm : s.control.mode ≠ .starting ∧ s.control.mode ≠ .held := by
    have := hs.stopped
    cases hh : s.control.mode <;> simp_all [Mode.still]
  refine ⟨hm, ?_, ?_⟩
  · have := hs.startup
    cases hh : s.pins.startup <;> simp_all
  · have := hs.autoResume
    cases hh : s.control.autoResume <;> simp_all

theorem ModeOk.frameStart' {s : State} (hs : ModeOk s) (h : s.frame.phase ≠ .stopped) : ModeOk s.frameStart :=
  have m := hs.moving h
  ModeOk.frameStart hs.owner hs.survey hs.reservation m.1 m.2.1 m.2.2 hs.unlocked

theorem ModeOk.resume {s : State} (h1 : s.control.mode = .scanning) (h2 : s.control.owner = none) (h3 : s.control.survey = none)
    (h5 : s.pins.startup = none) (h6 : s.control.autoResume = none)
    (h7 : s.control.reservation.isSome = true → s.control.capture = none) : ModeOk s.resume := by
  unfold State.resume
  apply ModeOk.frameStart <;> simp_all [Mode.owned]

theorem ModeOk.tail {s : State} (hs : ModeOk s) (h : s.frame.phase ≠ .stopped) : ModeOk s.trackEngine.enterTail := by
  have m := (hs.moving h).1
  refine ModeOk.same (s := { s with frame := { s.frame with phase := .tail, run := .none } }) ?_ ?_
  · simp [ModeSame, State.enterTail]
  · obtain ⟨a, b, c, d, e, f, g, i, j⟩ := hs
    refine ⟨a, b, c, ?_, by simp, f, g, i, j⟩
    cases hh : s.control.mode <;> simp_all [Mode.still]

theorem ModeOk.enterHeld {s : State} (hs : ModeOk s) (h : s.control.mode = .holding) (hr : s.frame.run = .none) : ModeOk s.enterHeld := by
  obtain ⟨a, b, c, d, e, f, g, i, j⟩ := hs
  constructor <;> simp_all [Mode.owned, Mode.still]
  simp [State.enterHeld]

theorem ModeOk.surveyFrameEnd {s : State} (hs : ModeOk s) (h : s.control.mode = .survey) : ModeOk s.surveyFrameEnd := by
  have hs' := hs
  obtain ⟨a, b, c, d, e, f, g, i, j⟩ := hs
  unfold State.surveyFrameEnd
  repeat' split
  all_goals first
    | exact hs'
    | (constructor <;> simp_all [Mode.owned, Mode.still, State.endSurvey, State.backToScanning])

theorem ModeOk.frameEnd {s : State} (hs : ModeOk s) (h : s.frame.phase ≠ .stopped) : ModeOk s.frameEnd := by
  have ht := hs.tail h
  unfold State.frameEnd
  dsimp only
  split
  · next hm => exact ht.enterHeld hm (by simp [State.enterTail])
  · next hm => exact ht.surveyFrameEnd hm
  all_goals exact ht

theorem ModeOk.endSlot {s : State} (hs : ModeOk s) (n o) (h : s.frame.phase ≠ .stopped) : ModeOk (s.endSlot n o) := by
  unfold State.endSlot
  dsimp only
  have h1 : ModeOk { s with frame := { s.frame with run := .none, outcomes := s.frame.outcomes.set n (some o) } } :=
    hs.same (by simp [ModeSame])
  split
  · exact h1
  · exact h1.frameEnd h

theorem ModeOk.beginSlot {s : State} (hs : ModeOk s) (n) (h : s.frame.phase = .running) : ModeOk (s.beginSlot n) := by
  unfold State.beginSlot
  dsimp only
  split
  · refine ModeOk.endSlot (hs.same ?_) _ _ ?_
    · simp [ModeSame, h]
    · simp [h]
  · split
    · split
      · refine ModeOk.endSlot (hs.same ?_) _ _ ?_
        · simp [ModeSame, h]
        · simp [h]
      · refine hs.same ?_; simp [ModeSame, h]
    · refine hs.same ?_; simp [ModeSame, h]

theorem ModeOk.restart {s : State} (h1 : s.control = restControl) (h2 : s.frame.phase = .stopped) (h3 : s.frame.run = .none) : ModeOk s := by
  constructor <;> simp_all [restControl, Mode.owned, Mode.still]

theorem ModeOk.truncate {s : State} (hs : ModeOk s) (h : s.frame.phase ≠ .stopped) : ModeOk s.truncate := by
  unfold State.truncate
  exact ModeOk.frameEnd (hs.same (by simp [ModeSame])) h

theorem ModeOk.syncTaken {s : State} (hs : ModeOk s) : ModeOk s.syncTaken := hs.same (by simp +contextual [ModeSame])

theorem ModeOk.dsyncPulse {s : State} (hs : ModeOk s) : ModeOk s.dsyncPulse := by
  unfold State.dsyncPulse State.frameStartUnlessHeld
  repeat' split
  · exact hs
  · exact hs
  · exact hs.syncTaken.frameStart' (by simp_all)
  · exact hs.syncTaken.truncate (by simp_all)
  · next h => exact (hs.syncTaken.truncate (by simp_all)).frameStart' (by simp [truncate_tail _ h])
  · exact hs.syncTaken.same (by simp +contextual [ModeSame])

end Sys2Proof.Machine
end

