-- ==== Sys2Proof/Laws/Step.lean ====
section
/-! SUPPORT. What a request and a step can answer, said once. -/

namespace Sys2Proof.Machine

/-- A request answers the state with zeros driven (in STARTING) or its effect. -/
theorem request_next {p : Port} {s t : State} {f : State → State} (h : request p s f = .next t) :
    t = s.drivesZero p ∨ t = f s := by
  unfold request at h
  split at h <;> cases h
  · exact .inl rfl
  · exact .inr rfl

/-- A step answers 1 µs of the timebase on an empty queue, or what the command at the front does with the rest. -/
theorem step_next {s t : State} (h : step s = .next t) :
    (s.pending = [] ∧ t = s.elapse 1) ∨ ∃ c rest, s.pending = c :: rest ∧ exec c { s with pending := rest } = .next t := by
  unfold step at h
  split at h
  · next h0 => cases h; exact .inl ⟨h0, rfl⟩
  · next c rest h0 => exact .inr ⟨c, rest, h0, h⟩

/-- Outside STARTING a request has its effect. -/
theorem request_eq {p : Port} {s : State} {f : State → State} (h : s.control.mode ≠ .starting) : request p s f = .next (f s) := by
  simp [request, h]

/-- In STARTING a request is ignored; zeros are driven. -/
theorem request_starting {p : Port} {s : State} {f : State → State} (h : s.control.mode = .starting) :
    request p s f = .next (s.drivesZero p) := by
  simp [request, h]

/-- A request always answers a next state. -/
theorem request_isNext (p : Port) (s : State) (f : State → State) : ∃ t, request p s f = .next t := by
  unfold request
  split <;> exact ⟨_, rfl⟩

/-- A Fetch Response drives one byte for every byte clocked: the frame's, then 0 (R124, R178). -/
theorem clockedBytes_spec (frame : List Byte) (clocked : Nat) :
    (clockedBytes frame clocked).length = clocked
      ∧ ∀ k, k < clocked → (clockedBytes frame clocked)[k]? = some (frame.getD k 0) := by
  refine ⟨by simp [clockedBytes], fun k h => by simp [clockedBytes, h]⟩

end Sys2Proof.Machine
end

