-- ==== Sys2Proof/Laws/Ports.lean ====
section
/-! SUPPORT. The invariant of the ports' own items through the shared operations. -/

namespace Sys2Proof.Machine

/-- Neither port changed. -/
theorem PortsOk.eq {s t : State} (hs : PortsOk s) (h1 : t.portS = s.portS) (h2 : t.portD = s.portD) : PortsOk t := by
  intro p
  have := hs p
  cases p
  · rw [port_s, h1]; exact this
  · rw [port_d, h2]; exact this

theorem PortsOk.setPort {s : State} (hs : PortsOk s) {p : Port} {ps : PortState} (h : PortOk ps) : PortsOk (s.setPort p ps) := by
  intro q
  rw [port_setPort]
  split
  · exact h
  · exact hs q

/-- The events an item may hold, with one more raised. -/
theorem addTo_ok {e : Event} (he : e ≠ .codeChange) {x : BitVec 16} (h : x.toNat < 16384 ∧ Event.codeChange.isIn x = false) :
    (e.addTo x).toNat < 16384 ∧ Event.codeChange.isIn (e.addTo x) = false := by
  have hlt : ∀ y : BitVec 16, y.toNat < 16384 ↔ y < 16384#16 := fun y => by simp [BitVec.lt_def]
  obtain ⟨h1, h2⟩ := h
  constructor
  · have : (e.set).toNat < 2 ^ 14 := by cases e <;> decide
    unfold Event.addTo
    rw [BitVec.toNat_or]
    exact Nat.or_lt_two_pow (n := 14) h1 this
  · have : Event.codeChange.isIn e.set = false := by cases e <;> first | decide | exact absurd rfl he
    simp only [Event.isIn, Event.addTo, BitVec.getLsbD_or] at *
    rw [h2, this]; rfl

theorem PortOk.addEvent {ps : PortState} (h : PortOk ps) {e : Event} (he : e ≠ .codeChange) :
    PortOk { ps with events := e.addTo ps.events } :=
  ⟨h.watermark, h.masked, h.maskEvents, addTo_ok he h.events, h.lists, h.tick⟩

theorem PortsOk.raise {s : State} (hs : PortsOk s) {e : Event} (he : e ≠ .codeChange) (p : Port) : PortsOk (s.raise e p) := by
  unfold State.raise
  split
  · exact hs
  · exact hs.setPort ((hs p).addEvent he)

theorem PortsOk.raiseBoth {s : State} (hs : PortsOk s) {e : Event} (he : e ≠ .codeChange) : PortsOk (s.raiseBoth e) :=
  (hs.raise he _).raise he _

theorem PortsOk.raiseIf {s : State} (hs : PortsOk s) {e : Event} (he : e ≠ .codeChange) (c : Bool) (p : Port) : PortsOk (s.raiseIf c e p) := by
  unfold State.raiseIf
  split
  · exact hs.raise he p
  · exact hs

theorem PortsOk.raiseBothIf {s : State} (hs : PortsOk s) {e : Event} (he : e ≠ .codeChange) (c : Bool) : PortsOk (s.raiseBothIf c e) := by
  unfold State.raiseBothIf
  split
  · exact hs.raiseBoth he
  · exact hs

theorem PortsOk.tick {s : State} (hs : PortsOk s) {pt : TickPoint} (h : pt ≠ .off) (p : Port) : PortsOk (s.tick pt p) := by
  unfold State.tick
  split
  · next hp =>
    split
    · exact hs.raise (by decide) p
    · exact hs.setPort ⟨(hs p).watermark, (hs p).masked, (hs p).maskEvents, (hs p).events, (hs p).lists, fun h' => absurd (hp.symm.trans h') h⟩
  · exact hs

theorem PortsOk.tickBoth {s : State} (hs : PortsOk s) {pt : TickPoint} (h : pt ≠ .off) : PortsOk (s.tickBoth pt) :=
  (hs.tick h _).tick h _

theorem PortsOk.completeTask {s : State} (hs : PortsOk s) (p k r) : PortsOk (s.completeTask p k r) := by
  unfold State.completeTask
  split
  · refine PortsOk.raise ?_ (by decide) p
    exact hs.setPort ⟨(hs p).watermark, (hs p).masked, (hs p).maskEvents, (hs p).events, (hs p).lists, (hs p).tick⟩
  · exact hs

theorem PortsOk.startTask {s : State} (hs : PortsOk s) (p k) : PortsOk (s.startTask p k) :=
  hs.setPort ⟨(hs p).watermark, (hs p).masked, (hs p).maskEvents, (hs p).events, (hs p).lists, (hs p).tick⟩

theorem PortsOk.answer {s : State} (hs : PortsOk s) (p c r l) : PortsOk (s.answer p c r l) :=
  hs.setPort ⟨(hs p).watermark, (hs p).masked, (hs p).maskEvents, (hs p).events, (hs p).lists, (hs p).tick⟩

theorem PortsOk.changeMode {s : State} (hs : PortsOk s) (m o) : PortsOk (s.changeMode m o) := by
  unfold State.changeMode
  refine PortsOk.raiseBoth ?_ (by decide)
  exact hs.eq rfl rfl

theorem PortsOk.applyWaiting {s : State} (hs : PortsOk s) : PortsOk s.applyWaiting := by
  unfold State.applyWaiting
  split
  · refine PortsOk.eq (s := State.raiseSettingsChanged { s with settings := s.settings.applied s.waiting, waiting := noWaiting, epoch := s.epoch + 1 } s.waiting) ?_ (by simp) (by simp)
    unfold State.raiseSettingsChanged
    refine PortsOk.raiseIf (PortsOk.raiseIf ?_ (by decide) _ _) (by decide) _ _
    exact hs.eq rfl rfl
  · exact hs

theorem PortsOk.applyPlan {s : State} (hs : PortsOk s) : PortsOk s.applyPlan := by
  unfold State.applyPlan
  split
  · refine PortsOk.completeTask ?_ _ _ _
    exact hs.eq rfl rfl
  · exact hs

theorem PortsOk.syncExpire {s : State} (hs : PortsOk s) : PortsOk s.syncExpire := by
  unfold State.syncExpire
  refine PortsOk.raiseBoth ?_ (by decide)
  exact hs.eq rfl rfl

theorem PortsOk.expireAfterChange {s : State} (hs : PortsOk s) (t) : PortsOk (s.expireAfterChange t) := by
  unfold State.expireAfterChange
  repeat' split
  · exact hs.syncExpire
  · exact hs
  · exact hs

theorem PortsOk.enterSurvey {s : State} (hs : PortsOk s) : PortsOk s.enterSurvey := by
  unfold State.enterSurvey
  repeat' split
  · refine PortsOk.changeMode ?_ _ _
    exact hs.eq rfl rfl
  all_goals exact hs.eq rfl rfl

theorem PortsOk.frameStart {s : State} (hs : PortsOk s) : PortsOk s.frameStart := by
  unfold State.frameStart
  refine PortsOk.tickBoth ?_ (by decide)
  refine PortsOk.eq (s := State.enterSurvey _) (PortsOk.enterSurvey (PortsOk.expireAfterChange (PortsOk.applyWaiting (PortsOk.applyPlan ?_)) _)) rfl rfl
  exact hs.eq rfl rfl

theorem PortsOk.resume {s : State} (hs : PortsOk s) : PortsOk s.resume := by
  unfold State.resume
  refine PortsOk.frameStart ?_
  exact hs.eq rfl rfl

theorem PortsOk.enterHeld {s : State} (hs : PortsOk s) : PortsOk s.enterHeld := by
  unfold State.enterHeld State.completeHold
  refine PortsOk.eq (s := State.completeHold _) ?_ rfl rfl
  have : PortsOk (s.applyWaiting.stopFrames.changeMode .held s.control.owner) := by
    refine PortsOk.changeMode ?_ _ _
    exact hs.applyWaiting.eq rfl rfl
  unfold State.completeHold
  split
  · exact this.completeTask _ _ _
  · exact this

theorem PortsOk.endSurvey {s : State} (hs : PortsOk s) (p r) : PortsOk (s.endSurvey p r) := by
  unfold State.endSurvey
  refine PortsOk.completeTask (PortsOk.raiseBoth ?_ (by decide)) _ _ _
  exact hs.eq rfl rfl

theorem PortsOk.surveyFrameEnd {s : State} (hs : PortsOk s) : PortsOk s.surveyFrameEnd := by
  unfold State.surveyFrameEnd
  repeat' split
  · refine PortsOk.endSurvey ?_ _ _; exact hs.eq rfl rfl
  · exact hs.endSurvey _ _
  · exact hs
  · exact hs

theorem enterChange_length (l : List (BitVec 4)) (c : BitVec 4) : (enterChange l c).length ≤ 2 := by
  cases l <;> simp [enterChange]

theorem PortOk.enterCode {ps : PortState} (h : PortOk ps) (i : ToolId) (c : Option (BitVec 4)) : PortOk (ps.enterCode i c) := by
  obtain ⟨a, b, c', d, e, f⟩ := h
  unfold PortState.enterCode
  split
  · exact ⟨a, b, c', d, e, f⟩
  · exact ⟨a, b, c', d, ⟨enterChange_length _ _, e.2⟩, f⟩
  · exact ⟨a, b, c', d, ⟨e.1, enterChange_length _ _⟩, f⟩

theorem PortsOk.enterCode {s : State} (hs : PortsOk s) (i c) : PortsOk (s.enterCode i c) := by
  intro p
  have := (hs p).enterCode i c
  cases p <;> exact this

theorem PortOk.moved {ps : PortState} (h : PortOk ps) (c : BitVec 16) : PortOk { ps with cursor := c } :=
  ⟨h.watermark, h.masked, h.maskEvents, h.events, h.lists, h.tick⟩

theorem PortOk.overrun {ps : PortState} (h : PortOk ps) (q k) : PortOk (ps.overrun q k) := h.moved _

theorem PortsOk.append {s : State} (hs : PortsOk s) (rs) : PortsOk (s.append rs) := by
  unfold State.append
  split
  · exact hs
  · dsimp only
    refine PortsOk.raiseIf (PortsOk.raiseIf ?_ (by decide) _ _) (by decide) _ _
    intro p
    cases p
    · exact (hs .s).overrun _ _
    · exact (hs .d).overrun _ _

theorem PortsOk.trackEngine {s : State} (hs : PortsOk s) : PortsOk s.trackEngine := by
  have h1 := (((hs.enterCode .t0 (s.toolEnd .t0).change).enterCode .t1 (s.toolEnd .t1).change).append
    (samplesOf s.stamp (s.toolEnd .t0) (s.toolEnd .t1)))
  unfold State.trackEngine State.waitingTest
  dsimp only
  generalize State.append _ _ = u at h1 ⊢
  refine PortsOk.raiseIf (PortsOk.raiseIf (PortsOk.raiseBothIf (PortsOk.raiseBothIf (PortsOk.raiseBothIf ?_ (by decide) _) (by decide) _) (by decide) _) (by decide) _ _) (by decide) _ _
  exact h1.eq rfl rfl

theorem PortsOk.frameEnd {s : State} (hs : PortsOk s) : PortsOk s.frameEnd := by
  have ht : PortsOk s.trackEngine.enterTail := hs.trackEngine.eq rfl rfl
  unfold State.frameEnd
  dsimp only
  split
  · exact ht.enterHeld
  · exact ht.surveyFrameEnd
  all_goals exact ht

theorem PortsOk.endSlot {s : State} (hs : PortsOk s) (n o) : PortsOk (s.endSlot n o) := by
  unfold State.endSlot
  dsimp only
  split
  · exact hs.eq rfl rfl
  · exact PortsOk.frameEnd (hs.eq rfl rfl)

theorem PortsOk.beginSlot {s : State} (hs : PortsOk s) (n) : PortsOk (s.beginSlot n) := by
  unfold State.beginSlot
  dsimp only
  repeat' split
  all_goals first
    | exact hs.eq rfl rfl
    | (refine PortsOk.endSlot ?_ _ _; exact hs.eq rfl rfl)

theorem PortsOk.truncate {s : State} (hs : PortsOk s) : PortsOk s.truncate := by
  unfold State.truncate
  refine PortsOk.frameEnd ?_
  exact hs.eq rfl rfl

theorem PortsOk.dsyncPulse {s : State} (hs : PortsOk s) : PortsOk s.dsyncPulse := by
  have h1 : PortsOk s.syncTaken := by
    unfold State.syncTaken
    refine PortsOk.raiseBothIf ?_ (by decide) _
    exact hs.eq rfl rfl
  unfold State.dsyncPulse State.frameStartUnlessHeld
  repeat' split
  · exact hs
  · exact hs
  · exact h1.frameStart
  · exact h1.truncate
  · exact h1.truncate.frameStart
  · exact h1.eq rfl rfl

theorem PortsOk.endHeld {s : State} (hs : PortsOk s) : PortsOk s.endHeld := by
  unfold State.endHeld
  refine PortsOk.resume (PortsOk.raiseBoth ?_ (by decide))
  exact hs.eq rfl rfl

theorem PortsOk.takeSetting {s : State} (hs : PortsOk s) (w : Waiting) : PortsOk (s.takeSetting w) := by
  unfold State.takeSetting
  dsimp only
  split
  · exact PortsOk.applyWaiting (hs.eq rfl rfl)
  · exact hs.eq rfl rfl

theorem PortsOk.changeSetting {s : State} (hs : PortsOk s) (p c w f) : PortsOk (s.changeSetting p c w f) :=
  (hs.takeSetting w).answer _ _ _ _

theorem PortsOk.undoTask {s : State} (hs : PortsOk s) (p k) : PortsOk (s.undoTask p k) := by
  unfold State.undoTask State.dropPlanOf State.dropReservationOf
  split <;> split
  all_goals first
    | exact hs.eq rfl rfl
    | (refine PortsOk.raiseBoth ?_ (by decide); exact hs.eq rfl rfl)
    | (split <;> exact hs.eq rfl rfl)

theorem PortsOk.beginHold {s : State} (hs : PortsOk s) (p d) : PortsOk (s.beginHold p d) := by
  unfold State.beginHold
  refine PortsOk.startTask (PortsOk.changeMode ?_ _ _) _ _
  exact hs.eq rfl rfl

theorem PortsOk.cancelWaiting {s : State} (hs : PortsOk s) : PortsOk s.cancelWaiting := by
  unfold State.cancelWaiting
  split
  · refine PortsOk.completeTask ?_ _ _ _; exact hs.eq rfl rfl
  · exact hs

theorem PortsOk.cancelActive {s : State} (hs : PortsOk s) : PortsOk s.cancelActive := by
  unfold State.cancelActive
  split
  · exact hs.completeTask _ _ _
  · exact hs

theorem PortsOk.supersede {s : State} (hs : PortsOk s) : PortsOk s.supersede := by
  unfold State.supersede
  split
  · exact hs.completeTask _ _ _
  · exact hs

theorem PortsOk.resetMode {s : State} (hs : PortsOk s) (p) : PortsOk (s.resetMode p) := by
  unfold State.resetMode
  have h1 : PortsOk (s.backToScanning.raise .modeChanged p.other) := by
    refine PortsOk.raise ?_ (by decide) _; exact hs.eq rfl rfl
  dsimp only
  repeat' split
  · exact h1.resume
  all_goals first | exact h1 | exact hs

theorem defaultPort_ok : PortOk defaultPort := ⟨by decide, by decide, by decide, by decide, by decide, fun _ => rfl⟩

theorem PortOk.restart {ps : PortState} (h : PortOk ps) : PortOk ps.restarted :=
  ⟨h.watermark, h.masked, h.maskEvents, defaultPort_ok.events, defaultPort_ok.lists, fun _ => rfl⟩

theorem PortOk.cold (ps : PortState) : PortOk ps.restartedCold :=
  ⟨defaultPort_ok.watermark, defaultPort_ok.masked, defaultPort_ok.maskEvents, defaultPort_ok.events, defaultPort_ok.lists, fun _ => rfl⟩

theorem PortsOk.applyGrid {s : State} (hs : PortsOk s) (p x y) : PortsOk (s.applyGrid p x y) := by
  unfold State.applyGrid
  refine PortsOk.raise ?_ (by decide) _
  intro q
  have := hs q
  cases q <;> exact ⟨this.watermark, this.masked, this.maskEvents, this.events, this.lists, this.tick⟩

theorem clampNat_range {lo hi : Nat} (h : lo ≤ hi) (v : Nat) : lo ≤ clampNat lo hi v ∧ clampNat lo hi v ≤ hi := by
  unfold clampNat
  repeat' split
  all_goals omega

end Sys2Proof.Machine
end

