-- ==== Sys2Proof/Laws/Store.lean ====
section
/-! SUPPORT. The Settings Store's invariant through the shared operations. -/

namespace Sys2Proof.Machine

/-! ## Application instances -/

theorem vector4_eta {α : Type} (v : Vector α 4) : #v[v[0], v[1], v[2], v[3]] = v := by
  ext i hi
  match i, hi with
  | 0, _ => rfl
  | 1, _ => rfl
  | 2, _ => rfl
  | 3, _ => rfl

theorem vector7_eta {α : Type} (v : Vector α 7) : #v[v[0], v[1], v[2], v[3], v[4], v[5], v[6]] = v := by
  ext i hi
  match i, hi with
  | 0, _ => rfl
  | 1, _ => rfl
  | 2, _ => rfl
  | 3, _ => rfl
  | 4, _ => rfl
  | 5, _ => rfl
  | 6, _ => rfl

/-- With nothing pending the applied settings are the old ones. -/
theorem applied_noWaiting (c : Settings) : c.applied noWaiting = c := by
  cases c
  simp [Settings.applied, takeChange, noWaiting, vector4_eta, vector7_eta]

/-- The settings after an application (R141). -/
@[simp] theorem applyWaiting_settings (s : State) : s.applyWaiting.settings = s.settings.applied s.waiting := by
  unfold State.applyWaiting
  split
  · simp
  · next h =>
    have e : s.waiting = noWaiting := takers_any_false (by simpa using h)
    rw [e, applied_noWaiting]

/-- The settings in force in a frame (R141). -/
@[simp] theorem frameStart_settings (s : State) : s.frameStart.settings = s.settings.applied s.waiting := by
  simp [State.frameStart]

/-- Nothing is pending after a frame start (R141). -/
@[simp] theorem frameStart_waiting (s : State) : s.frameStart.waiting = noWaiting := by
  simp [State.frameStart]

@[simp] theorem applied_xCount (c : Settings) (w : Waiting) : (c.applied w).xCount = c.xCount := rfl
@[simp] theorem applied_yCount (c : Settings) (w : Waiting) : (c.applied w).yCount = c.yCount := rfl
@[simp] theorem applied_timing (c : Settings) (w : Waiting) : (c.applied w).timing = takeChange c.timing w.timing := rfl
@[simp] theorem applied_profiles (c : Settings) (w : Waiting) (i : Fin 4) :
    (c.applied w).profiles[i] = takeChange c.profiles[i] w.profiles[i] := by fin_cases i <;> rfl
@[simp] theorem applied_pressure (c : Settings) (w : Waiting) : (c.applied w).pressure = takeChange c.pressure w.pressure := rfl
@[simp] theorem applied_tracking (c : Settings) (w : Waiting) : (c.applied w).tracking = takeChange c.tracking w.tracking := rfl
@[simp] theorem applied_map (c : Settings) (w : Waiting) (j : Fin 7) :
    (c.applied w).map[j] = takeChange c.map[j] w.map[j] := by fin_cases j <;> rfl
@[simp] theorem applied_combo (c : Settings) (w : Waiting) : (c.applied w).combo = takeChange c.combo w.combo := rfl

theorem takeChange_none {α : Type} (x : α) : takeChange x none = x := rfl

theorem ItemOk.take {α : Type} {ok : α → Prop} {x : α} {w : Option (Change α)} (h : ItemOk ok x w) : ok (takeChange x w) := by
  cases w with
  | none => exact h.1
  | some ch => exact h.2 ch rfl

theorem ItemOk.applied {α : Type} {ok : α → Prop} {x : α} {w : Option (Change α)} (h : ItemOk ok x w) : ItemOk ok (takeChange x w) none :=
  ⟨h.take, by simp⟩

theorem ItemOk.set {α : Type} {ok : α → Prop} {x : α} {w : Option (Change α)} (h : ItemOk ok x w) {ch : Change α} (h' : ok ch.value) :
    ItemOk ok x (some ch) := ⟨h.1, by rintro c ⟨⟩; exact h'⟩

/-! ## The invariant -/

/-- `t` agrees with `s` on all that `StoreOk` reads, or has dropped its Pending Plan. -/
def StoreSame (s t : State) : Prop :=
  t.settings = s.settings ∧ t.waiting = s.waiting ∧ t.frame.activePlan = s.frame.activePlan ∧
    (t.frame.pendingPlan = s.frame.pendingPlan ∨ t.frame.pendingPlan = none) ∧ ∀ q, (t.port q).view = (s.port q).view

theorem StoreOk.same {s t : State} (hs : StoreOk s) (h : StoreSame s t) : StoreOk t := by
  obtain ⟨h1, h2, h3, h4, h5⟩ := h
  obtain ⟨a, b, c, d, e, f, g, i, j, k, l, m⟩ := hs
  have hn : t.nextFramePeriod = s.nextFramePeriod := by simp [State.nextFramePeriod, h1, h2]
  have hp : t.nextProfile = s.nextProfile := by funext x; simp [State.nextProfile, h1, h2]
  refine ⟨by rw [h1]; exact a, by rw [h1, h2]; exact b, by rw [h1, h2]; exact c, by rw [h1, h2]; exact d, by rw [h1, h2]; exact e,
    by rw [h1, h2]; exact f, by rw [h1]; exact g, by rw [hp]; exact i, by rw [h1, h3]; exact j, by rw [hn, h3]; exact k, ?_,
    fun p => by rw [h1, h5]; exact m p⟩
  intro q hq
  rw [hn]
  rcases h4 with h4 | h4
  · exact l q (h4 ▸ hq)
  · rw [h4] at hq; cases hq

theorem StoreOk.elapse {s : State} (hs : StoreOk s) (d : Nat) : StoreOk (s.elapse d) :=
  hs.same (by simp [StoreSame])

/-- After every pending change is applied, with a plan that fits the FramePeriod to come. -/
theorem StoreOk.applied {s t : State} (hs : StoreOk s) (h1 : t.settings = s.settings.applied s.waiting) (h2 : t.waiting = noWaiting)
    (h3 : planValid s.nextFramePeriod t.frame.activePlan = true)
    (h4 : t.frame.pendingPlan = s.frame.pendingPlan ∨ t.frame.pendingPlan = none)
    (h5 : ∀ q, (t.port q).view = (s.port q).view) : StoreOk t := by
  have hn : t.nextFramePeriod = s.nextFramePeriod := by simp [State.nextFramePeriod, h1, h2, noWaiting, takeChange]
  have hw4 : ∀ i : Fin 4, noWaiting.profiles[i] = none := by intro i; fin_cases i <;> rfl
  have hw7 : ∀ i : Fin 7, noWaiting.map[i] = none := by intro i; fin_cases i <;> rfl
  have hp : t.nextProfile = s.nextProfile := by funext x; simp only [State.nextProfile, h1, h2, applied_profiles, hw4, takeChange_none]
  have hp' : (fun i : Fin 4 => t.settings.profiles[i]) = s.nextProfile := by funext x; simp only [State.nextProfile, h1, applied_profiles]
  obtain ⟨a, b, c, d, e, f, g, i, j, k, l, m⟩ := hs
  constructor
  · rw [h1]; exact a
  · rw [h1, h2]; exact b.applied
  · intro i; rw [h1, h2, hw4, applied_profiles]; exact (c i).applied
  · rw [h1, h2]; exact d.applied
  · rw [h1, h2]; exact e.applied
  · intro i; rw [h1, h2, hw7, applied_map]; exact (f i).applied
  · rw [hp']; exact i
  · rw [hp]; exact i
  · rw [h1]; exact h3
  · rw [hn]; exact h3
  · intro q hq
    rw [hn]
    rcases h4 with h4 | h4
    · exact l q (h4 ▸ hq)
    · rw [h4] at hq; cases hq
  · intro p; rw [h1, h5]; exact m p

theorem StoreOk.applyWaiting {s : State} (hs : StoreOk s) : StoreOk s.applyWaiting :=
  hs.applied (by simp) (by simp) (by simpa using hs.activePlanNext) (by simp) (by simp)

theorem StoreOk.frameStart {s : State} (hs : StoreOk s) : StoreOk s.frameStart := by
  refine hs.applied (by simp) (by simp) ?_ (by simp) (by simp)
  rw [frameStart_frame_activePlan]
  cases h : s.frame.pendingPlan with
  | none => simpa [h] using hs.activePlanNext
  | some q => simpa [h] using hs.pendingPlan q h

theorem StoreOk.resume {s : State} (hs : StoreOk s) : StoreOk s.resume := by
  unfold State.resume
  exact StoreOk.frameStart (hs.same (by simp [StoreSame]))

theorem StoreOk.endHeld {s : State} (hs : StoreOk s) : StoreOk s.endHeld := by
  unfold State.endHeld
  exact StoreOk.resume (hs.same (by simp [StoreSame]))

theorem StoreOk.frameEnd {s : State} (hs : StoreOk s) : StoreOk s.frameEnd := by
  have ht : StoreOk s.trackEngine.enterTail := hs.same (by simp [StoreSame])
  unfold State.frameEnd
  dsimp only
  split
  · unfold State.enterHeld
    exact ht.applyWaiting.same (by simp [StoreSame])
  · refine ht.same ?_
    unfold State.surveyFrameEnd
    repeat' split
    all_goals simp [StoreSame]
  all_goals exact ht

theorem StoreOk.endSlot {s : State} (hs : StoreOk s) (n o) : StoreOk (s.endSlot n o) := by
  unfold State.endSlot
  dsimp only
  split
  · exact hs.same (by simp [StoreSame])
  · exact StoreOk.frameEnd (hs.same (by simp [StoreSame]))

theorem StoreOk.beginSlot {s : State} (hs : StoreOk s) (n) : StoreOk (s.beginSlot n) := by
  unfold State.beginSlot
  dsimp only
  repeat' split
  all_goals first
    | (refine StoreOk.endSlot (hs.same ?_) _ _; simp [StoreSame]; done)
    | (refine hs.same ?_; simp [StoreSame]; done)

theorem StoreOk.dsyncPulse {s : State} (hs : StoreOk s) : StoreOk s.dsyncPulse := by
  have h1 : StoreOk s.syncTaken := hs.same (by simp [StoreSame])
  have h2 : StoreOk s.syncTaken.truncate := by
    unfold State.truncate
    exact StoreOk.frameEnd (h1.same (by simp [StoreSame]))
  unfold State.dsyncPulse State.frameStartUnlessHeld
  repeat' split
  · exact hs
  · exact hs
  · exact h1.frameStart
  · exact h2
  · exact h2.frameStart
  · exact h1.same (by simp [StoreSame])

theorem StoreOk.takeSetting {s : State} {w : Waiting} (hs : StoreOk { s with waiting := w }) : StoreOk (s.takeSetting w) := by
  unfold State.takeSetting
  dsimp only
  split
  · exact hs.applyWaiting
  · exact hs

theorem StoreOk.changeSetting {s : State} {w : Waiting} (hs : StoreOk { s with waiting := w }) (p c f) : StoreOk (s.changeSetting p c w f) := by
  unfold State.changeSetting
  refine (StoreOk.takeSetting hs).same ?_
  unfold StoreSame
  dsimp only
  rw [answer_settings, answer_waiting, answer_frame]
  refine ⟨rfl, rfl, rfl, .inl rfl, fun q => ?_⟩
  rw [answer_port_view]

theorem tipsDiffer_default : TipsDiffer (fun i => defaultProfiles[i]) := by
  intro i j
  fin_cases i <;> fin_cases j <;> decide

theorem storeOk_default {s : State} (h1 : s.settings = defaultSettings) (h2 : s.waiting = noWaiting) (h3 : s.frame.activePlan = defaultPlan)
    (h4 : s.frame.pendingPlan = none) (h5 : ∀ q, (s.port q).view = defaultView 24320 15104) : StoreOk s := by
  have hn : s.nextFramePeriod = 2500 := by simp [State.nextFramePeriod, h1, h2]; rfl
  have hw4 : ∀ i : Fin 4, noWaiting.profiles[i] = none := by intro i; fin_cases i <;> rfl
  have hw7 : ∀ i : Fin 7, noWaiting.map[i] = none := by intro i; fin_cases i <;> rfl
  have hp : s.nextProfile = fun i => defaultProfiles[i] := by funext x; simp only [State.nextProfile, h1, h2, hw4, takeChange_none]; rfl
  have ht := tipsDiffer_default
  constructor
  · rw [h1]; unfold GridOk; decide
  · rw [h1, h2]; exact ⟨by unfold TimingOk; decide, by rintro _ ⟨⟩⟩
  · intro i; rw [h1, h2, hw4]; exact ⟨by unfold ProfileOk; fin_cases i <;> decide, by rintro _ ⟨⟩⟩
  · rw [h1, h2]; exact ⟨by decide, by rintro _ ⟨⟩⟩
  · rw [h1, h2]; exact ⟨by unfold TrackingOk; decide, by rintro _ ⟨⟩⟩
  · intro i; rw [h1, h2, hw7]; exact ⟨by unfold RowOk NodeOk; fin_cases i <;> decide, by rintro _ ⟨⟩⟩
  · rw [h1]; exact ht
  · rw [hp]; exact ht
  · rw [h1, h3]; decide
  · rw [hn, h3]; decide
  · rw [h4]; rintro _ ⟨⟩
  · intro p; rw [h1, h5]; unfold ViewOk; decide

/-! ## The items the requests bring -/

theorem planValid_other {fp fp' : Nat} {p : Plan} (h : planValid fp p = true) (h' : planFits fp' p = true) : planValid fp' p = true := by
  simp only [planValid, Bool.and_eq_true] at h ⊢
  exact ⟨h.1, h'⟩

theorem within_iff (lo hi v : Nat) : within lo hi v = true ↔ lo ≤ v ∧ v ≤ hi := by simp [within]

theorem timingOf_ok {a b c t} (h : timingOf a b c = some t) : TimingOk t := by
  unfold timingOf at h
  split at h
  · split at h
    · next hc => 
      simp only [Bool.and_eq_true, within_iff] at hc
      cases h
      exact ⟨hc.1.1, hc.1.2, hc.2.1, hc.2.2⟩
    · cases h
  · cases h

theorem profileOf_ok {a t} (h : profileOf a = some t) : ProfileOk t := by
  unfold profileOf at h
  split at h
  · split at h
    · next hc => 
      simp only [Bool.and_eq_true, within_iff, bne_iff_ne] at hc
      cases h
      obtain ⟨⟨⟨⟨⟨⟨a1, a2⟩, b1, b2⟩, c⟩, d⟩, e⟩, f⟩ := hc
      refine ⟨a1, a2, b1, b2, ?_, d.2, e.1, e.2, f.1, f.2⟩
      intro hh; exact c (BitVec.eq_of_toNat_eq hh)
    · cases h
  · cases h

theorem trackingOf_ok {a t} (h : trackingOf a = some t) : TrackingOk t := by
  unfold trackingOf at h
  dsimp only at h
  split at h
  · next hc =>
    cases h
    exact ⟨(clampNat_range (lo := 0) (hi := 4095) (by decide) _).2, hc, (clampNat_range (by decide) _).1, (clampNat_range (lo := 1) (by decide) _).2, (clampNat_range (by decide) _).1, (clampNat_range (lo := 2) (by decide) _).2, (clampNat_range (lo := 0) (hi := 64) (by decide) _).2, (clampNat_range (lo := 0) (hi := 900) (by decide) _).2⟩
  · cases h

theorem clamp_range {lo hi : Int} (h : lo ≤ hi) (v : Int) : lo ≤ clamp lo hi v ∧ clamp lo hi v ≤ hi := by
  unfold clamp
  repeat' split
  all_goals omega

theorem mapRowOf_ok (v) : RowOk (mapRowOf v) := by
  have : ∀ a, NodeOk (nodeOf a) := fun a => ⟨(clamp_range (by decide) _).1, (clamp_range (by decide) _).2, (clamp_range (by decide) _).1, (clamp_range (by decide) _).2⟩
  intro i
  fin_cases i <;> exact this _

theorem viewOf_ok {c : Settings} {a v} (hc : GridOk c) (h : viewOf c a = some v) : ViewOk c v := by
  have hx : 0 ≤ c.xSpan := by have := hc.1; simp [Settings.xSpan, span, Config.pitch]; omega
  have hy : 0 ≤ c.ySpan := by have := hc.2.2.1; simp [Settings.ySpan, span, Config.pitch]; omega
  unfold viewOf at h
  split at h
  · split at h
    · next hw =>
      dsimp only at h
      split at h
      · next hv => 
        cases h
        simp only [Bool.and_eq_true, within_iff] at hw
        refine ⟨?_, hv.1, ?_, ?_, hv.2, ?_, hw.1.1, hw.1.2, hw.2.1, hw.2.2, (clampNat_range (lo := 0) (by decide) _).2⟩
        · dsimp only; exact (clamp_range hx _).1
        · dsimp only; exact (clamp_range hx _).2
        · dsimp only; exact (clamp_range hy _).1
        · dsimp only; exact (clamp_range hy _).2
      · cases h
    · cases h
  · cases h

theorem viewOk_default {c : Settings} (hc : GridOk c) : ViewOk c (defaultView c.xSpan c.ySpan) := by
  have hx : 0 < c.xSpan := by have := hc.1; simp [Settings.xSpan, span, Config.pitch]; omega
  have hy : 0 < c.ySpan := by have := hc.2.2.1; simp [Settings.ySpan, span, Config.pitch]; omega
  exact ⟨le_refl _, hx, le_refl _, le_refl _, hy, le_refl _, by simp [defaultView], by simp [defaultView], by simp [defaultView], by simp [defaultView], by simp [defaultView]⟩

theorem viewOk_within {c c' : Settings} {v : View} (hv : ViewOk c v) (hc : GridOk c') : ViewOk c' (v.within c'.xSpan c'.ySpan) := by
  have hx : 0 < c'.xSpan := by have := hc.1; simp [Settings.xSpan, span, Config.pitch]; omega
  have hy : 0 < c'.ySpan := by have := hc.2.2.1; simp [Settings.ySpan, span, Config.pitch]; omega
  obtain ⟨a, b, d, e, f, g, h⟩ := hv
  refine ⟨?_, ?_, ?_, ?_, ?_, ?_, h⟩ <;> simp only [View.within, clamp] <;> (repeat' split) <;> omega

theorem gridOf_ok {x y g} {c : Settings} (h : gridOf x y = some g) : GridOk { c with xCount := g.1, yCount := g.2 } := by
  unfold gridOf at h
  split at h
  · next hh =>
    cases h
    simp only [Bool.and_eq_true, within_iff] at hh
    exact ⟨hh.1.1, hh.1.2, hh.2.1, hh.2.2⟩
  · cases h

theorem StoreOk.setView {s : State} (hs : StoreOk s) {p v} (h : ViewOk s.settings v) : StoreOk (s.setPort p { s.port p with view := v }) := by
  obtain ⟨a, b, c, d, e, f, g, i, j, k, l, m⟩ := hs
  have hn : (s.setPort p { s.port p with view := v }).nextFramePeriod = s.nextFramePeriod := by simp [State.nextFramePeriod]
  have hp : (s.setPort p { s.port p with view := v }).nextProfile = s.nextProfile := by funext x; simp [State.nextProfile]
  constructor <;> simp only [setPort_settings, setPort_waiting, setPort_frame, hn, hp]
  all_goals first | assumption | skip
  intro q
  rw [port_setPort]
  split
  · exact h
  · exact m q

theorem StoreOk.applyGrid {s : State} (hs : StoreOk s) {p x y g} (h : gridOf x y = some g) : StoreOk (s.applyGrid p g.1 g.2) := by
  have hg := gridOf_ok (c := s.settings) h
  obtain ⟨a, b, c, d, e, f, gg, i, j, k, l, m⟩ := hs
  have hset : (s.applyGrid p g.1 g.2).settings = { s.settings with xCount := g.1, yCount := g.2 } := by simp [State.applyGrid]
  have hn : (s.applyGrid p g.1 g.2).nextFramePeriod = s.nextFramePeriod := by simp [State.nextFramePeriod, hset]
  have hp : (s.applyGrid p g.1 g.2).nextProfile = s.nextProfile := by funext x; simp [State.nextProfile, hset]
  constructor <;> simp only [applyGrid_waiting, hset, applyGrid_frame_activePlan, applyGrid_frame_pendingPlan, hn, hp]
  all_goals first | assumption | skip
  intro q
  rw [port_applyGrid]
  have := viewOk_within (m q) hg
  exact this

theorem StoreOk.waiting {s : State} {w : Waiting} (hs : StoreOk s)
    (h1 : w.timing = s.waiting.timing ∨ ∃ ch, w.timing = some ch ∧ TimingOk ch.value ∧ s.periodFits ch.value.framePeriod = true)
    (h2 : ∀ i : Fin 4, w.profiles[i] = s.waiting.profiles[i] ∨ ∃ ch, w.profiles[i] = some ch ∧ ProfileOk ch.value)
    (h3 : TipsDiffer (fun i => takeChange s.settings.profiles[i] w.profiles[i]))
    (h4 : w.pressure = s.waiting.pressure ∨ ∃ ch, w.pressure = some ch ∧ pressureValid ch.value = true)
    (h5 : w.tracking = s.waiting.tracking ∨ ∃ ch, w.tracking = some ch ∧ TrackingOk ch.value)
    (h6 : ∀ i : Fin 7, w.map[i] = s.waiting.map[i] ∨ ∃ ch, w.map[i] = some ch ∧ RowOk ch.value) : StoreOk { s with waiting := w } := by
  have hf : ∀ x, s.periodFits x = true → planFits x s.frame.activePlan = true ∧ ∀ q, s.frame.pendingPlan = some q → planFits x q.plan = true := by
    intro x hx
    simp only [State.periodFits, Bool.and_eq_true] at hx
    exact ⟨hx.1, fun q hq => by simpa [hq] using hx.2⟩
  have hn : State.nextFramePeriod { s with waiting := w } = s.nextFramePeriod ∨ ∃ x, State.nextFramePeriod { s with waiting := w } = x ∧ s.periodFits x = true := by
    rcases h1 with h1 | ⟨ch, h1, h2, h3⟩
    · left; simp [State.nextFramePeriod, h1]
    · right; exact ⟨_, by simp [State.nextFramePeriod, h1, takeChange], h3⟩
  obtain ⟨a, b, c, d, e, f, g, i, j, k, l, m⟩ := hs
  refine ⟨a, ?_, ?_, ?_, ?_, ?_, g, h3, j, ?_, ?_, m⟩
  · rcases h1 with h1 | ⟨ch, h1, h2, h3⟩ <;> simp only [h1]
    · exact b
    · exact b.set h2
  · intro x
    rcases h2 x with h2 | ⟨ch, h1, h2⟩
    · dsimp only; rw [h2]; exact c x
    · dsimp only; rw [h1]; exact (c x).set h2
  · rcases h4 with h2 | ⟨ch, h1, h2⟩
    · dsimp only; rw [h2]; exact d
    · dsimp only; rw [h1]; exact d.set h2
  · rcases h5 with h2 | ⟨ch, h1, h2⟩
    · dsimp only; rw [h2]; exact e
    · dsimp only; rw [h1]; exact e.set h2
  · intro x
    rcases h6 x with h2 | ⟨ch, h1, h2⟩
    · dsimp only; rw [h2]; exact f x
    · dsimp only; rw [h1]; exact (f x).set h2
  · rcases hn with h | ⟨x, h, h'⟩
    · rw [h]; exact k
    · rw [h]; exact planValid_other k (hf x h').1
  · intro q hq
    rcases hn with h | ⟨x, h, h'⟩
    · rw [h]; exact l q hq
    · rw [h]; exact planValid_other (l q hq) ((hf x h').2 q hq)

theorem tips_set {s : State} (hs : StoreOk s) {i : Fin 4} {f : Profile} {p} (h : ¬ s.tipFreqClash i f = true) :
    TipsDiffer (fun j => takeChange s.settings.profiles[j] (s.waiting.profiles.set i (some { value := f, port := p }))[j]) := by
  have key : ∀ j : Fin 4, takeChange s.settings.profiles[j] (s.waiting.profiles.set i (some { value := f, port := p }))[j] = if j = i then f else s.nextProfile j := by
    intro j
    by_cases e : j = i
    · subst e; simp [takeChange]
    · have e' : i.val ≠ j.val := fun h => e (Fin.ext h.symm)
      simp [e, State.nextProfile, e']
  have hc : f.enabled = true → ∀ j, j ≠ i → (s.nextProfile j).enabled = true → (s.nextProfile j).tipFreq ≠ f.tipFreq := by
    intro he j hj hen heq
    apply h
    simp only [State.tipFreqClash, he, Bool.true_and, List.any_eq_true]
    exact ⟨j, by fin_cases j <;> simp, by simp [hj, hen, heq]⟩
  have hn := hs.nextTips
  intro a b hab
  dsimp only
  rw [key, key]
  split <;> split
  · next h1 h2 => exact absurd (h1.trans h2.symm) hab
  · next h1 h2 => intro he he2; exact (hc he b h2 he2).symm
  · next h1 h2 => intro he he2; exact hc he2 a h1 he
  · exact hn a b hab

theorem StoreOk.nextTips' {s : State} (hs : StoreOk s) : TipsDiffer (fun i => takeChange s.settings.profiles[i] s.waiting.profiles[i]) := hs.nextTips

theorem StoreOk.warm {s t : State} (hs : StoreOk s) (h1 : t.settings = s.settings) (h2 : t.waiting = noWaiting)
    (h3 : t.frame.activePlan = s.frame.activePlan) (h4 : t.frame.pendingPlan = none) (h5 : ∀ q, (t.port q).view = (s.port q).view) : StoreOk t := by
  have hn : t.nextFramePeriod = s.settings.timing.framePeriod := by simp [State.nextFramePeriod, h1, h2]; rfl
  have hw4 : ∀ i : Fin 4, noWaiting.profiles[i] = none := by intro i; fin_cases i <;> rfl
  have hw7 : ∀ i : Fin 7, noWaiting.map[i] = none := by intro i; fin_cases i <;> rfl
  have hp : t.nextProfile = fun i => s.settings.profiles[i] := by funext x; simp only [State.nextProfile, h1, h2, hw4, takeChange_none]
  obtain ⟨a, b, c, d, e, f, g, i, j, k, l, m⟩ := hs
  constructor
  · rw [h1]; exact a
  · rw [h1, h2]; exact ⟨b.1, by rintro _ ⟨⟩⟩
  · intro i; rw [h1, h2, hw4]; exact ⟨(c i).1, by rintro _ ⟨⟩⟩
  · rw [h1, h2]; exact ⟨d.1, by rintro _ ⟨⟩⟩
  · rw [h1, h2]; exact ⟨e.1, by rintro _ ⟨⟩⟩
  · intro i; rw [h1, h2, hw7]; exact ⟨(f i).1, by rintro _ ⟨⟩⟩
  · rw [h1]; exact g
  · rw [hp]; exact g
  · rw [h1, h3]; exact j
  · rw [hn, h3]; exact j
  · rw [h4]; rintro _ ⟨⟩
  · intro p; rw [h1, h5]; exact m p

end Sys2Proof.Machine
end

