-- ==== Sys2Proof/Laws/Tasks.lean ====
section
/-! SUPPORT. What the shared operations do to the task slots, and that they keep `TasksOk`. -/

namespace Sys2Proof.Machine

theorem completeTask_slot (s : State) (p q : Port) (k : TaskKind) (r : ResultCode) :
    ((s.completeTask p k r).port q).slot
      = if q = p ∧ (s.port p).slot = .running k then .completed k r else (s.port q).slot := by
  unfold State.completeTask
  split
  · next h => 
    rw [raise_port_slot, port_setPort]; split <;> simp_all
  · next h => simp [h]

theorem applyPlan_slot (s : State) (q : Port) :
    (s.applyPlan.port q).slot
      = if s.frame.pendingPlan.map (·.issuer) = some q ∧ (s.port q).slot = .running .setPlan then .completed .setPlan .ok
        else (s.port q).slot := by
  unfold State.applyPlan
  split
  · next x hx => rw [completeTask_slot]; simp [hx, port_update, eq_comm]; by_cases h : q = x.issuer <;> simp_all [eq_comm]
  · next hx => simp [hx]

theorem frameStart_slot (s : State) (q : Port) :
    (s.frameStart.port q).slot
      = if s.frame.pendingPlan.map (·.issuer) = some q ∧ (s.port q).slot = .running .setPlan then .completed .setPlan .ok
        else (s.port q).slot := by
  simp [State.frameStart, applyPlan_slot]

theorem startTask_slot (s : State) (p q : Port) (k : TaskKind) :
    ((s.startTask p k).port q).slot = if q = p then .running k else (s.port q).slot := by
  unfold State.startTask
  rw [port_setPort]; split <;> rfl

theorem supersede_slot (s : State) (q : Port) :
    (s.supersede.port q).slot
      = if s.frame.pendingPlan.map (·.issuer) = some q ∧ (s.port q).slot = .running .setPlan then .completed .setPlan .superseded
        else (s.port q).slot := by
  unfold State.supersede
  split
  · next x hx => rw [completeTask_slot]; simp [hx]; by_cases h : q = x.issuer <;> simp_all [eq_comm]
  · next hx => simp [hx]

theorem cancelWaiting_slot (s : State) (q : Port) :
    (s.cancelWaiting.port q).slot
      = if s.control.reservation.map (·.port) = some q ∧ (s.port q).slot = .running .coilSurvey then .completed .coilSurvey .cancelled
        else (s.port q).slot := by
  unfold State.cancelWaiting
  split
  · next x hx => rw [completeTask_slot]; simp [hx]; by_cases h : q = x.port <;> simp_all [eq_comm]
  · next hx => simp [hx]

theorem cancelActive_slot (s : State) (q : Port) :
    (s.cancelActive.port q).slot
      = if s.control.owner = some q ∧ (s.port q).slot = .running .coilSurvey then .completed .coilSurvey .cancelled
        else (s.port q).slot := by
  unfold State.cancelActive
  split
  · next x hx => rw [completeTask_slot]; simp [hx]; by_cases h : q = x <;> simp_all [eq_comm]
  · next hx => simp [hx]

theorem beginHold_slot (s : State) (p q : Port) (d : Byte) :
    ((s.beginHold p d).port q).slot = if q = p then .running .holdScan else (s.port q).slot := by
  unfold State.beginHold
  rw [startTask_slot]; simp [port_update]

theorem dropPlanOf_pendingPlan (s : State) (p : Port) :
    (s.dropPlanOf p).frame.pendingPlan = if s.frame.pendingPlan.map (·.issuer) = some p then none else s.frame.pendingPlan := by
  unfold State.dropPlanOf
  split <;> rfl

@[simp] theorem beginHold_control (s : State) (p : Port) (d : Byte) :
    (s.beginHold p d).control = { s.control with survey := none, resumeDelay := d.toNat, mode := .holding, owner := some p } := by
  simp [State.beginHold]

/-- `t` agrees with `s` on all that `TasksOk` reads. -/
def TasksSame (s t : State) : Prop :=
  (∀ q, (t.port q).slot = (s.port q).slot) ∧ t.frame.pendingPlan.map (·.issuer) = s.frame.pendingPlan.map (·.issuer) ∧
  t.control.mode = s.control.mode ∧ t.control.owner = s.control.owner ∧
  t.control.reservation.map (·.port) = s.control.reservation.map (·.port)

theorem TasksOk.same {s t : State} (h : TasksSame s t) (hs : TasksOk s) : TasksOk t := by
  obtain ⟨h1, h2, h3, h4, h5⟩ := h
  obtain ⟨a, b, c⟩ := hs
  exact ⟨fun p => by rw [h1, h2]; exact a p, fun p => by rw [h1, h3, h4]; exact b p, fun p => by rw [h1, h3, h4, h5]; exact c p⟩

theorem TasksOk.frameStart {s : State} (hs : TasksOk s) (h : s.control.reservation.isSome = true → s.control.mode = .scanning) :
    TasksOk s.frameStart := by
  obtain ⟨a, b, c⟩ := hs
  refine ⟨fun p => ?_, fun p => ?_, fun p => ?_⟩
  · rw [frameStart_slot]; have := a p; simp; split <;> simp_all
  · rw [frameStart_slot, frameStart_control]
    have := b p
    unfold State.enterSurvey
    split <;> simp_all <;> (try split) <;> simp_all <;> (try cases s.control.reservation) <;> simp_all
  · rw [frameStart_slot, frameStart_control]
    have ha := a p
    have hc := c p
    have hne : (if Option.map (·.issuer) s.frame.pendingPlan = some p ∧ (s.port p).slot = .running .setPlan
        then TaskSlot.completed TaskKind.setPlan ResultCode.ok else (s.port p).slot) = .running .coilSurvey
        ↔ (s.port p).slot = .running .coilSurvey := by
      split <;> simp_all
    rw [hne, hc]
    unfold State.enterSurvey
    clear ha hc hne a b c
    cases hm : s.control.mode <;> simp_all <;> cases hr : s.control.reservation <;> simp_all

theorem TasksOk.enterHeld {s : State} (hs : TasksOk s) (h : s.control.mode = .holding) (hr : s.control.reservation = none) : TasksOk s.enterHeld := by
  obtain ⟨a, b, c⟩ := hs
  have hsl : ∀ q, (s.enterHeld.port q).slot = if s.control.owner = some q ∧ (s.port q).slot = .running .holdScan then .completed .holdScan .ok else (s.port q).slot := by
    intro q
    unfold State.enterHeld State.completeHold
    split
    · next p hp =>
      simp [completeTask_slot] at hp ⊢
      by_cases hq : q = p <;> simp_all [eq_comm]
    · next hp => simp at hp ⊢; simp [hp]
  refine ⟨fun p => ?_, fun p => ?_, fun p => ?_⟩
  · rw [hsl]; have := a p; simp; split <;> simp_all
  · rw [hsl]; have := b p; simp; split <;> simp_all
  · rw [hsl]; have := c p; simp; split <;> simp_all

theorem TasksOk.endSurvey {u : State} (hs : TasksOk u) (ow : Port) (r : ResultCode) (h : u.control.mode = .survey)
    (hr : u.control.reservation = none) (hw : u.control.owner = some ow) : TasksOk (u.endSurvey ow r) := by
  obtain ⟨a, b, c⟩ := hs
  unfold State.endSurvey
  refine ⟨fun p => ?_, fun p => ?_, fun p => ?_⟩
  · have := a p; have := c p
    rw [completeTask_slot]; simp; split <;> simp_all
  · have := b p; rw [completeTask_slot]; simp; split <;> simp_all
  · have := c p; rw [completeTask_slot]; simp; by_cases hp : p = ow <;> simp_all [eq_comm]

theorem TasksOk.surveyFrameEnd {s : State} (hs : TasksOk s) (h : s.control.mode = .survey) (hr : s.control.reservation = none) : TasksOk s.surveyFrameEnd := by
  unfold State.surveyFrameEnd
  repeat' split
  · exact TasksOk.endSurvey (hs.same (by simp [TasksSame])) _ _ h hr (by assumption)
  · exact hs.endSurvey _ _ h hr (by assumption)
  · exact hs
  · exact hs

theorem TasksOk.frameEnd {s : State} (hs : TasksOk s) (hr : s.control.reservation.isSome = true → s.control.mode = .scanning) : TasksOk s.frameEnd := by
  have ht : TasksOk s.trackEngine.enterTail := hs.same (by simp [TasksSame])
  unfold State.frameEnd
  dsimp only
  split
  · next hm => exact ht.enterHeld hm (by simp at hm; cases hh : s.control.reservation <;> simp_all)
  · next hm => exact ht.surveyFrameEnd hm (by simp at hm; cases hh : s.control.reservation <;> simp_all)
  all_goals exact ht

theorem TasksOk.endSlot {s : State} (hs : TasksOk s) (n o) (hr : s.control.reservation.isSome = true → s.control.mode = .scanning) : TasksOk (s.endSlot n o) := by
  unfold State.endSlot
  dsimp only
  split
  · exact hs.same (by simp [TasksSame])
  · exact TasksOk.frameEnd (hs.same (by simp [TasksSame])) hr

theorem TasksOk.beginSlot {s : State} (hs : TasksOk s) (n) (hr : s.control.reservation.isSome = true → s.control.mode = .scanning) : TasksOk (s.beginSlot n) := by
  unfold State.beginSlot
  dsimp only
  split
  · exact TasksOk.endSlot (hs.same (by simp [TasksSame])) _ _ (by simpa using hr)
  · split
    · split
      · exact TasksOk.endSlot (hs.same (by simp [TasksSame])) _ _ (by simpa using hr)
      · exact hs.same (by simp [TasksSame])
    · exact hs.same (by simp [TasksSame])

theorem TasksOk.truncate {s : State} (hs : TasksOk s) (hr : s.control.reservation.isSome = true → s.control.mode = .scanning) : TasksOk s.truncate := by
  unfold State.truncate
  exact TasksOk.frameEnd (hs.same (by simp [TasksSame])) hr

theorem TasksOk.dsyncPulse {s : State} (hm : ModeOk s) (hs : TasksOk s) : TasksOk s.dsyncPulse := by
  unfold State.dsyncPulse State.frameStartUnlessHeld
  have h1 : TasksOk s.syncTaken := hs.same (by simp [TasksSame])
  repeat' split
  · exact hs
  · exact hs
  · exact h1.frameStart (by simpa using hm.reservation)
  · exact h1.truncate (by simpa using hm.reservation)
  · next h => exact (h1.truncate (by simpa using hm.reservation)).frameStart (hm.syncTaken.truncate (by simp_all)).reservation
  · exact h1.same (by simp [TasksSame])

theorem TasksOk.resume {s : State} (hs : TasksOk s) (h : s.control.reservation.isSome = true → s.control.mode = .scanning) : TasksOk s.resume := by
  unfold State.resume
  exact TasksOk.frameStart (hs.same (by simp [TasksSame])) (by simpa using h)

theorem TasksOk.endHeld {s : State} (hs : TasksOk s) (h : s.control.mode = .held) (hr : s.control.reservation = none) : TasksOk s.endHeld := by
  unfold State.endHeld
  refine TasksOk.resume ?_ (by simp [hr])
  obtain ⟨a, b, c⟩ := hs
  constructor <;> simp_all

theorem TasksOk.restart {s : State} (h1 : s.control = restControl) (h2 : s.frame.pendingPlan = none) (h3 : ∀ p, (s.port p).slot = .empty) : TasksOk s := by
  constructor <;> simp_all [restControl]

theorem collected_running (x : TaskSlot) (k : TaskKind) : x.collected = .running k ↔ x = .running k := by
  cases x <;> simp [TaskSlot.collected]

theorem not_running {x : TaskSlot} (h : ¬ x.isRunning = true) (k : TaskKind) : x ≠ .running k := by
  rintro rfl; simp [TaskSlot.isRunning] at h

end Sys2Proof.Machine
end

