-- ==== Sys2Proof/Laws/FrameStart.lean ====
section
/-! SUPPORT. What a frame start does, said once: FrameStarted. -/

namespace Sys2Proof.Machine

/-- A tick point at port `p` sets TickPending there when the port's tick point is that one (R133). -/
theorem tick_tickPending (s : State) (pt) (p q : Port) : ((s.tick pt p).port q).tickPending = if p = q then ((s.port q).tickPending || (s.port q).tickPoint == pt) else (s.port q).tickPending := by
  unfold State.tick
  by_cases h3 : q = p
  · subst h3; by_cases h : (s.port q).tickPoint = pt <;> by_cases h2 : (s.port q).tickPending <;> simp [h, h2]
  · have h4 : ¬ p = q := fun e => h3 e.symm
    by_cases h : (s.port p).tickPoint = pt <;> by_cases h2 : (s.port p).tickPending <;> simp [h, h2, h3, h4, port_setPort]
/-- A tick point leaves the tick points. -/
theorem tick_tickPoint (s : State) (pt) (p q : Port) : ((s.tick pt p).port q).tickPoint = (s.port q).tickPoint := by
  unfold State.tick
  by_cases h3 : q = p
  · subst h3; by_cases h : (s.port q).tickPoint = pt <;> by_cases h2 : (s.port q).tickPending <;> simp [h, h2]
  · have h4 : ¬ p = q := fun e => h3 e.symm
    by_cases h : (s.port p).tickPoint = pt <;> by_cases h2 : (s.port p).tickPending <;> simp [h, h2, h3, h4, port_setPort]
/-- A tick point at both ports (R133). -/
theorem tickBoth_tickPending (s : State) (pt) (q : Port) : ((s.tickBoth pt).port q).tickPending = ((s.port q).tickPending || (s.port q).tickPoint == pt) := by
  cases q <;> simp only [State.tickBoth, tick_tickPending, tick_tickPoint] <;> rfl
/-- With the profiles unchanged no mark is made. -/
theorem marked_self (o : Vector Profile 4) (t : Tool) : Marked o o t t := by simp [Marked]
/-- markRelease marks as R37 says. -/
theorem markRelease_marked (o n : Vector Profile 4) (t : Tool) : Marked o n t (markRelease o n t) := by
  unfold Marked markRelease
  split
  · next h => have := h.2; simp [h.1, this]; exact .inr this
  · next h =>
    rcases t with ⟨⟩
    simp only [ne_eq, not_and, not_not] at h
    simp
    intro a b; exact absurd (h a) b
/-- An application instance marks the tool records whose profile it alters, and changes nothing else of them (R37). -/
theorem applyWaiting_tools (s : State) : Marked s.settings.profiles (s.settings.applied s.waiting).profiles s.tool0 s.applyWaiting.tool0
   ∧ Marked s.settings.profiles (s.settings.applied s.waiting).profiles s.tool1 s.applyWaiting.tool1 := by
  have hs := applyWaiting_settings s
  unfold State.applyWaiting at hs ⊢
  split
  · next h =>
    simp [h] at hs
    simp [State.profileEffects]
    exact ⟨markRelease_marked _ _ _, markRelease_marked _ _ _⟩
  · next h =>
    simp [h] at hs
    rw [← hs]; exact ⟨marked_self _ _, marked_self _ _⟩
/-! ## What a frame start raises (R24, R127, R133, R143) -/

/-- An event is in a set that another joins when it was there or is that event. -/
theorem isIn_addTo (e e' : Event) (x : BitVec 16) : e'.isIn (e.addTo x) = (e'.isIn x || e == e') := by
  simp only [Event.isIn, Event.addTo, BitVec.getLsbD_or]
  congr 1
  cases e <;> cases e' <;> rfl
/-- Raising an event at a port puts it there and no other anywhere (R130). -/
theorem raise_isIn (s : State) (e e' : Event) (p q : Port) (h : s.control.mode ≠ .starting) :
    e'.isIn ((s.raise e p).port q).events = (e'.isIn (s.port q).events || (q == p && e == e')) := by
  rw [port_raise]
  by_cases h2 : q = p <;> simp [h, h2, isIn_addTo]
/-- The same with a condition. -/
theorem raiseIf_isIn (s : State) (c : Bool) (e e' : Event) (p q : Port) (h : s.control.mode ≠ .starting) :
    e'.isIn ((s.raiseIf c e p).port q).events = (e'.isIn (s.port q).events || (c && (q == p && e == e'))) := by
  cases c <;> simp [State.raiseIf, raise_isIn _ _ _ _ _ h]
/-- Raising an event at both ports puts it at each. -/
theorem raiseBoth_isIn (s : State) (e e' : Event) (q : Port) (h : s.control.mode ≠ .starting) :
    e'.isIn ((s.raiseBoth e).port q).events = (e'.isIn (s.port q).events || e == e') := by
  simp only [State.raiseBoth]
  rw [raise_isIn _ _ _ _ _ (by simpa using h), raise_isIn _ _ _ _ _ h]
  cases q <;> simp [show (Port.d == Port.s) = false from rfl, show (Port.s == Port.d) = false from rfl]
/-- A task that completes raises TaskDone at its port and no other event (R127). -/
theorem completeTask_isIn (s : State) (p : Port) (k r) (e' : Event) (q : Port) (h : s.control.mode ≠ .starting) :
    e'.isIn ((s.completeTask p k r).port q).events
      = (e'.isIn (s.port q).events || (q == p && (s.port p).slot == .running k && Event.taskDone == e')) := by
  unfold State.completeTask
  split
  · next h2 =>
    rw [raise_isIn _ _ _ _ _ (by simpa using h), port_setPort]
    by_cases h3 : q = p <;> simp [h2, h3]
  · next h2 => simp [h2]
/-- A plan that is applied raises TaskDone at its issuer and no other event (R24). -/
theorem applyPlan_isIn (s : State) (e' : Event) (q : Port) (h : s.control.mode ≠ .starting) :
    e'.isIn (s.applyPlan.port q).events
      = (e'.isIn (s.port q).events || (decide (s.frame.pendingPlan.map (·.issuer) = some q) && (s.port q).slot == .running .setPlan
          && Event.taskDone == e')) := by
  unfold State.applyPlan
  cases hp : s.frame.pendingPlan with
  | none => simp
  | some w =>
    simp only [Option.map_some]
    rw [completeTask_isIn _ _ _ _ _ _ (by simpa using h)]
    by_cases h3 : q = w.issuer
    · subst h3; simp
    · simp [h3, Ne.symm h3]
/-- An application instance raises SettingsChanged at the port other than each taker and no other event (R143). -/
theorem applyWaiting_isIn (s : State) (e' : Event) (q : Port) (h : s.control.mode ≠ .starting) :
    e'.isIn (s.applyWaiting.port q).events
      = (e'.isIn (s.port q).events || (s.waiting.anyBy q.other && Event.settingsChanged == e')) := by
  unfold State.applyWaiting
  split
  · simp only [comboEffects_port, syncEffects_port, profileEffects_port, State.raiseSettingsChanged]
    rw [raiseIf_isIn _ _ _ _ _ _ (by simpa using h), raiseIf_isIn _ _ _ _ _ _ (by simpa using h)]
    cases q <;> simp [Port.other, show (Port.d == Port.s) = false from rfl, show (Port.s == Port.d) = false from rfl]
    all_goals rfl
  · next h2 =>
    have h3 : s.waiting = noWaiting := takers_any_false (by simpa using h2)
    have h4 : ∀ r, noWaiting.anyBy r = false := by intro r; cases r <;> decide
    simp [h3, h4]
/-- The takers of the pending changes, port by port (R143). -/
theorem anyBy_takenOn (w : Waiting) (p : Port) : w.anyBy p = true ↔ w.TakenOn p := by
  obtain ⟨a, b, c, d, e, f⟩ := w
  obtain ⟨⟨lb⟩, hb⟩ := b
  obtain ⟨⟨le⟩, he⟩ := e
  simp only [List.size_toArray] at hb he
  match lb, hb with
  | [x, y, z, w], hb =>
    match le, he with
    | [x', y', z', w', u', v', t'], he =>
      simp only [Waiting.anyBy, Waiting.takers, Waiting.TakenOn, List.contains_iff_mem, List.mem_append, List.mem_map,
        Vector.toList, List.mem_cons, List.not_mem_nil, or_false, exists_eq_or_imp, exists_eq_left,
        Fin.exists_fin_succ, IsEmpty.exists_iff, eq_comm (a := some p)]
      simp only [or_assoc]
      rfl
/-- A timing expiry at a frame start raises SyncLost and no other event (R16). -/
theorem expireAfterChange_isIn (s : State) (c : Bool) (e' : Event) (q : Port) (h : s.control.mode ≠ .starting) (he : e' ≠ .syncLost) :
    e'.isIn ((s.expireAfterChange c).port q).events = e'.isIn (s.port q).events := by
  unfold State.expireAfterChange
  split
  · split
    · unfold State.syncExpire
      rw [raiseBoth_isIn _ _ _ _ (by simpa using h)]
      rw [beq_eq_false_iff_ne.2 (Ne.symm he), Bool.or_false]
      cases q <;> rfl
    · rfl
  · rfl
/-- Mode Control at a frame start raises ModeChanged with a survey's entry and no other event (R154). -/
theorem enterSurvey_isIn (s : State) (e' : Event) (q : Port) :
    e'.isIn (s.enterSurvey.port q).events
      = (e'.isIn (s.port q).events || (s.control.mode == .scanning && s.control.reservation.isSome && Event.modeChanged == e')) := by
  unfold State.enterSurvey
  cases hm : s.control.mode <;> simp
  · cases hr : s.control.reservation <;> simp
    unfold State.changeMode
    rw [raiseBoth_isIn _ _ _ _ (by simp)]
    cases q <;> simp [State.port]
/-- A tick point raises TickMissed where a tick is pending and no other event (R133). -/
theorem tick_isIn (s : State) (pt) (p q : Port) (e' : Event) (h : s.control.mode ≠ .starting) :
    e'.isIn ((s.tick pt p).port q).events
      = (e'.isIn (s.port q).events || (q == p && (s.port p).tickPoint == pt && (s.port p).tickPending && Event.tickMissed == e')) := by
  unfold State.tick
  split
  · next h1 =>
    split
    · next h2 => rw [raise_isIn _ _ _ _ _ h]; simp [h1, h2]
    · next h2 => rw [port_setPort]; by_cases h3 : q = p <;> simp [h1, h2, h3]
  · next h1 => simp [h1]
/-- The same at both ports. -/
theorem tickBoth_isIn (s : State) (pt) (q : Port) (e' : Event) (h : s.control.mode ≠ .starting) :
    e'.isIn ((s.tickBoth pt).port q).events
      = (e'.isIn (s.port q).events || ((s.port q).tickPoint == pt && (s.port q).tickPending && Event.tickMissed == e')) := by
  unfold State.tickBoth
  rw [tick_isIn _ _ _ _ _ (by simpa using h), tick_isIn _ _ _ _ _ h]
  cases q <;> simp [tick_tickPending, show (Port.d == Port.s) = false from rfl, show (Port.s == Port.d) = false from rfl]

/-- What a frame start raises at port `q`, but for SyncLost (R16, R24, R133, R143, R154). -/
theorem frameStart_isIn (s : State) (e' : Event) (q : Port) (h : s.control.mode ≠ .starting) (he : e' ≠ .syncLost) :
    e'.isIn (s.frameStart.port q).events
      = (e'.isIn (s.port q).events
        || (decide (s.frame.pendingPlan.map (·.issuer) = some q) && (s.port q).slot == .running .setPlan && Event.taskDone == e')
        || (s.waiting.anyBy q.other && Event.settingsChanged == e')
        || (s.control.mode == .scanning && s.control.reservation.isSome && Event.modeChanged == e')
        || ((s.port q).tickPoint == .frameStart && (s.port q).tickPending && Event.tickMissed == e')) := by
  have hm : s.enterSurvey.control.mode ≠ .starting := by
    unfold State.enterSurvey; split <;> (try split) <;> simp_all
  have hc := frameStart_control s
  unfold State.frameStart at hc ⊢
  simp only [tickBoth_control] at hc
  rw [tickBoth_isIn _ _ _ _ (by rw [hc]; exact hm)]
  simp only [layOut_port, enterSurvey_port_tickPoint, enterSurvey_port_tickPending]
  rw [enterSurvey_isIn, expireAfterChange_isIn _ _ _ _ (by simpa using h) he, applyWaiting_isIn _ _ _ (by simpa using h),
    applyPlan_isIn _ _ _ (by simpa using h)]
  simp only [expireAfterChange_port_tickPoint, expireAfterChange_port_tickPending, applyWaiting_port_tickPoint,
    applyWaiting_port_tickPending, applyPlan_port_tickPoint, applyPlan_port_tickPending]
  cases q <;> simp [State.port]

/-- The first non-IDLE slot: 8 when every slot is IDLE (R31). -/
theorem nextSlot_spec (p : Plan) (i : Nat) : nextSlot p i ≤ 8
    ∧ ∀ k : Fin 8, (i ≤ k.val → k.val < nextSlot p i → p[k].function = 0)
      ∧ (k.val = nextSlot p i → i ≤ k.val ∧ p[k].function ≠ 0) := by
  unfold nextSlot
  cases hf : (List.finRange 8).find? (fun k => decide (i ≤ k.val) && !isIdle p[k]) with
  | none =>
    rw [List.find?_eq_none] at hf
    refine ⟨by simp, fun k => ⟨fun h1 _ => ?_, fun h2 => ?_⟩⟩
    · have := hf k (List.mem_finRange k); simpa [h1, isIdle] using this
    · have := k.isLt; simp at h2; omega
  | some m =>
    rw [List.find?_eq_some_iff_getElem] at hf
    obtain ⟨hm, j, hj, hj2, hlt⟩ := hf
    simp at hj2
    subst hj2
    simp only [Option.elim_some]
    have hj3 : j < 8 := by simpa using hj
    refine ⟨hj3.le, fun k => ⟨fun h1 h2 => ?_, fun h2 => ?_⟩⟩
    · have := hlt k.val h2; simp [h1, isIdle] at this; exact this
    · have h3 : k = ⟨j, by simpa using hj⟩ := Fin.ext h2
      subst h3; simpa [isIdle] using hm

/-- A frame's layout is that of a state with the same frame and Mode Control. -/
theorem LaidOut.same {s t : State} (h : LaidOut s) (hf : t.frame = s.frame) (hc : t.control = s.control) : LaidOut t := by
  obtain ⟨h1, h2, h3⟩ := h
  constructor <;> rw [hf] <;> (try rw [hc]) <;> assumption
/-- A frame is laid out as R31 and R155 say. -/
theorem layOut_laidOut (s : State) : LaidOut s.layOut := by
  constructor
  · rfl
  · intro h
    have h1 : ∀ p : Plan, ∀ k : Fin 8, (startOutcomes p)[k] = if p[k].function = 0 then some .idle else none := by
      intro p k; fin_cases k <;> simp [startOutcomes, startOutcome, isIdle]
    simp [State.layOut] at h
    simp [State.layOut, h, h1]
    exact ⟨(nextSlot_spec _ 0).1, fun k => ⟨((nextSlot_spec _ 0).2 k).1 (Nat.zero_le _), fun e => (((nextSlot_spec _ 0).2 k).2 e).2⟩⟩
  · intro h
    have h2 : s.windowNow.isSome = true := Option.isSome_iff_ne_none.2 h
    simp only [State.layOut, h2, if_true]
    exact ⟨trivial, fun k => by fin_cases k <;> rfl⟩
/-- The Search Cursor after an application instance (R37). -/
theorem applyWaiting_search (s : State) : s.applyWaiting.search =
    if (s.settings.applied s.waiting).profiles[s.search.profile] = s.settings.profiles[s.search.profile] then s.search
    else sweepFrom (if (s.settings.applied s.waiting).profiles[s.search.profile].enabled then s.search.profile
      else nextEnabled (s.settings.applied s.waiting).profiles s.search.profile) := by
  unfold State.applyWaiting
  split
  · simp [State.profileEffects, cursorAfterProfiles]
    split <;> (try split) <;> rfl
  · next h => rw [takers_any_false (by simpa using h : s.waiting.any = false), applied_noWaiting]; simp
/-- The hold timer after an application instance (R173). -/
theorem applyWaiting_keys (s : State) : s.applyWaiting.keys = { s.keys with
    hold :=
      if (s.settings.applied s.waiting).combo = s.settings.combo then s.keys.hold
      else if (s.settings.applied s.waiting).combo = .none then .stopped
      else if s.keys.hold = .spent then .spent
      else if s.keys.allPressed (s.settings.applied s.waiting).combo then .running 0 else .stopped } := by
  unfold State.applyWaiting
  split
  · simp only [State.comboEffects, judgedHold, syncEffects_settings, syncEffects_keys, profileEffects_settings, profileEffects_keys,
      raiseSettingsChanged_settings, raiseSettingsChanged_keys]
    split
    · simp
    · cases h : s.keys.hold <;> simp <;> rfl
  · next h => rw [takers_any_false (by simpa using h : s.waiting.any = false), applied_noWaiting]; simp
/-- What a frame start does, said once (R9). -/
theorem frameStart_started (s : State) : FrameStarted s s.frameStart := by
  constructor
  · simp [State.frameStart]
  · simp [State.frameStart]
  · simp [State.frameStart]
  · simp [State.frameStart]
  · simp [State.frameStart, State.applyPlan]; cases s.frame.pendingPlan <;> simp
  · simp [State.frameStart, State.applyPlan]; cases h : s.frame.pendingPlan <;> simp [h]
  · simp
  · simp
  · simp [State.frameStart]; simp [State.applyWaiting]; split <;> simp_all
  · intro i
    cases i <;> simp [State.frameStart, State.tool]
    · simpa using (applyWaiting_tools (State.applyPlan _)).1
    · simpa using (applyWaiting_tools (State.applyPlan _)).2
  · simp [State.frameStart]
  · intro p; simp [State.frameStart]
  · intro p
    refine ⟨by simp [State.frameStart], ?_⟩
    simp [State.frameStart, tickBoth_tickPending]
  · intro p
    simp only [State.frameStart]
    simp [State.applyPlan]
    cases h : s.frame.pendingPlan with
    | none => simp
    | some q =>
      simp [completeTask_slot, eq_comm]
      by_cases h2 : p = q.issuer <;> simp_all [eq_comm]
  · intro h; simp [State.frameStart, State.enterSurvey]
    cases h1 : s.control.mode <;> simp_all [h1]
  · intro r h1 h2
    refine ⟨by simp [frameStart_control, State.enterSurvey, h1, h2], by simp [frameStart_control, State.enterSurvey, h1, h2],
      by simp [frameStart_control, State.enterSurvey, h1, h2], by simp [frameStart_control, State.enterSurvey, h1, h2], fun p => ?_⟩
    rw [frameStart_isIn _ _ _ (by simp [h2]) (by decide)]
    simp [h1, h2]
  · intro h; simp [frameStart_control, State.enterSurvey, h]
  · intro h1 h2; rw [frameStart_control]; unfold State.enterSurvey
    cases hm : s.control.mode <;> simp_all
  · simp [frameStart_control, State.enterSurvey]; cases h1 : s.control.mode <;> cases h2 : s.control.reservation <;> simp [h1, h2]
  · exact (layOut_laidOut _).same (tickBoth_frame ..) (tickBoth_control ..)
  · have h := applyWaiting_search { s with frame := { s.frame with
      count := s.frame.count + 1, timer := 0, midDone := false, phase := .running, run := .none, obs0 := noObs, obs1 := noObs } }.applyPlan
    simpa [State.frameStart] using h
  · have h := applyWaiting_keys { s with frame := { s.frame with
      count := s.frame.count + 1, timer := 0, midDone := false, phase := .running, run := .none, obs0 := noObs, obs1 := noObs } }.applyPlan
    simpa [State.frameStart] using h
  · intro h p
    refine ⟨?_, ?_, ?_, ?_⟩
    · rw [frameStart_isIn _ _ _ h (by decide)]; simp
    · rw [frameStart_isIn _ _ _ h (by decide), ← anyBy_takenOn]; simp
    · rw [frameStart_isIn _ _ _ h (by decide)]; simp
    · intro e he
      have h1 : (Event.taskDone == e) = false ∧ (Event.settingsChanged == e) = false ∧ (Event.modeChanged == e) = false
          ∧ (Event.tickMissed == e) = false ∧ e ≠ .syncLost := by
        rcases he with rfl | rfl | rfl | rfl | rfl | rfl <;> decide
      rw [frameStart_isIn _ _ _ h h1.2.2.2.2]
      simp [h1.1, h1.2.1, h1.2.2.1, h1.2.2.2.1]

/-- The events that a frame start's own clauses speak of (R24, R133, R143). -/
def Event.ofFrameStart : Event → Bool
  | .taskDone | .settingsChanged | .tickMissed | .samplesWaiting | .overrun | .toolEnter | .toolLeave | .identityKnown
  | .keyChange => true
  | .codeChange | .syncLost | .syncRegained | .modeChanged | .restarted => false

/-- A frame start seen from another state before it: one that differs from the true one in the frame's timers and sync state,
the pins, the queue, what the ports sent and their other events alone. -/
theorem FrameStarted.seenFrom {s s' t : State} (h : FrameStarted s' t)
    (hf : s'.frame.count = s.frame.count ∧ s'.frame.activePlan = s.frame.activePlan ∧ s'.frame.pendingPlan = s.frame.pendingPlan)
    (hc : s'.control = s.control) (hset : s'.settings = s.settings) (hw : s'.waiting = s.waiting) (he : s'.epoch = s.epoch)
    (hsearch : s'.search = s.search) (hk : s'.keys = s.keys) (ht : ∀ i, s'.tool i = s.tool i)
    (hr : s'.ring = s.ring ∧ s'.nextSeq = s.nextSeq ∧ s'.snap0 = s.snap0 ∧ s'.snap1 = s.snap1)
    (hp : ∀ p, s'.port p = { s.port p with events := (s'.port p).events, sent := (s'.port p).sent })
    (hev : ∀ p, ∀ e : Event, e.ofFrameStart = true → e.isIn (s'.port p).events = e.isIn (s.port p).events) : FrameStarted s t := by
  obtain ⟨a1, a2, a3, a4, a5, a6, a7, a8, a9, a10, a11, a12, a13, a14, a15, a16, a17, a18, a19, a20, a21, a22, a23⟩ := h
  constructor
  · rw [a1, hf.1]
  · exact a2
  · exact a3
  · exact a4
  · rw [a5, hf.2.1, hf.2.2]
  · exact a6
  · rw [a7, hset, hw]
  · exact a8
  · rw [a9, hw, he]
  · intro i; have h1 := a10 i; rw [ht, hset] at h1; exact h1
  · rw [← hr.1, ← hr.2.1, ← hr.2.2.1, ← hr.2.2.2]; exact a11
  · intro p; have h1 := a12 p; rw [hp] at h1; exact h1
  · intro p; have h1 := a13 p; rw [hp] at h1; exact h1
  · intro p; have h1 := a14 p; rw [hp, hf.2.2] at h1; exact h1
  · rw [← hc]; exact a15
  · rw [← hc]; exact a16
  · rw [← hc]; exact a17
  · rw [← hc]; exact a18
  · rw [← hc]; exact a19
  · exact a20
  · simp only [hsearch, hset] at a21; exact a21
  · rw [a22, hk, hset]
  · intro hm p
    obtain ⟨b1, b2, b3, b4⟩ := a23 (by rw [hc]; exact hm) p
    have hs : (s'.port p).slot = (s.port p).slot ∧ (s'.port p).tickPoint = (s.port p).tickPoint
        ∧ (s'.port p).tickPending = (s.port p).tickPending := by rw [hp]; exact ⟨rfl, rfl, rfl⟩
    constructor
    · rw [hev p _ rfl, hf.2.2, hs.1] at b1; exact b1
    · rw [hev p _ rfl, hw] at b2; exact b2
    · rw [hev p _ rfl, hs.2.1, hs.2.2] at b3; exact b3
    · intro e h1
      have h2 := b4 e h1
      rw [hev p e (by rcases h1 with rfl | rfl | rfl | rfl | rfl | rfl <;> rfl)] at h2
      exact h2

end Sys2Proof.Machine
end

