-- ==== Sys2Proof/Laws/Keys.lean ====
section
/-! SUPPORT. The Key Monitor's invariant through the shared operations. -/

namespace Sys2Proof.Machine

/-- `t` agrees with `s` on all that `KeysOk` reads. -/
def KeysSame (s t : State) : Prop :=
  t.keys.levels = s.keys.levels ∧ t.settings.combo = s.settings.combo ∧
    (t.keys.hold = s.keys.hold ∨ ∃ d e, s.keys.hold = .running d ∧ t.keys.hold = .running e)

theorem KeysOk.same {s t : State} (h : KeysSame s t) (hs : KeysOk s) : KeysOk t := by
  obtain ⟨h1, h2, h3⟩ := h
  obtain ⟨a, b⟩ := hs
  have he : t.keys.allPressed t.settings.combo = s.keys.allPressed s.settings.combo := by simp [Keys.allPressed, h1, h2]
  constructor
  · intro hc
    have := a (h2 ▸ hc)
    rcases h3 with h3 | ⟨d, e, h3, h4⟩
    · rw [h3, this]
    · rw [this] at h3; cases h3
  · intro d hd
    rw [he]
    rcases h3 with h3 | ⟨d', e, h3, h4⟩
    · exact b d (h3 ▸ hd)
    · exact b d' h3

/-- Keys and the combination untouched. -/
theorem KeysOk.eq {s t : State} (hs : KeysOk s) (h1 : t.keys = s.keys) (h2 : t.settings.combo = s.settings.combo) : KeysOk t :=
  hs.same ⟨by rw [h1], h2, .inl (by rw [h1])⟩

theorem elapse_keysSame (s : State) (d : Nat) : KeysSame s (s.elapse d) := by
  unfold KeysSame State.elapse
  refine ⟨by simp only; split <;> rfl, rfl, ?_⟩
  dsimp only
  split
  · cases h : s.keys.hold <;> simp [h]
  · exact .inl rfl

theorem KeysOk.elapse {s : State} (hs : KeysOk s) (d : Nat) : KeysOk (s.elapse d) := hs.same (elapse_keysSame s d)

theorem judgedHold_running {k : Keys} {c : KeyCombo} {d : Nat} (h : judgedHold k c = .running d) :
    k.allPressed c = true := by
  unfold judgedHold at h
  split at h
  · cases h
  · split at h
    · cases h
    · split at h
      · assumption
      · cases h
    · split at h
      · assumption
      · cases h

theorem KeysOk.judged {s : State} {k : Keys} (h : s.keys = { k with hold := judgedHold k s.settings.combo }) : KeysOk s := by
  constructor
  · intro hc; rw [h]; simp [judgedHold, hc]
  · intro d hd
    rw [h] at hd ⊢
    exact judgedHold_running (k := k) hd

theorem KeysOk.applyWaiting {s : State} (hs : KeysOk s) : KeysOk s.applyWaiting := by
  unfold State.applyWaiting
  split
  · unfold State.comboEffects
    dsimp only
    split
    · next h => exact hs.eq (by simp) (by simpa using h)
    · exact KeysOk.judged (k := s.keys) (by simp)
  · exact hs

theorem KeysOk.applied {u : State} (h : KeysOk u) (tm f) :
    KeysOk ((u.applyWaiting.expireAfterChange tm).enterSurvey.layOut.tickBoth f) :=
  h.applyWaiting.eq (by simp) (by simp)

theorem KeysOk.frameStart {s : State} (hs : KeysOk s) : KeysOk s.frameStart := by
  unfold State.frameStart
  refine KeysOk.applied ?_ _ _
  exact hs.eq (by simp) (by simp)

theorem KeysOk.enterHeld {s : State} (hs : KeysOk s) : KeysOk s.enterHeld := by
  unfold State.enterHeld
  exact hs.applyWaiting.eq (by simp) (by simp)

theorem KeysOk.frameEnd {s : State} (hs : KeysOk s) : KeysOk s.frameEnd := by
  have ht : KeysOk s.trackEngine.enterTail := hs.eq (by simp) (by simp)
  unfold State.frameEnd
  dsimp only
  split
  · exact ht.enterHeld
  · exact ht.eq (by simp) (by simp)
  all_goals exact ht

theorem KeysOk.endSlot {s : State} (hs : KeysOk s) (n o) : KeysOk (s.endSlot n o) := by
  unfold State.endSlot
  dsimp only
  split
  · exact hs.eq rfl rfl
  · exact KeysOk.frameEnd (hs.eq rfl rfl)

theorem KeysOk.beginSlot {s : State} (hs : KeysOk s) (n) : KeysOk (s.beginSlot n) := by
  have h1 : KeysOk (s.untilFrame (s.frame.slotTimes n).start) := hs.elapse _
  unfold State.beginSlot
  dsimp only
  split
  · refine KeysOk.endSlot ?_ _ _; exact h1.eq rfl rfl
  · split
    · split
      · refine KeysOk.endSlot ?_ _ _; exact h1.eq rfl rfl
      · exact h1.eq rfl rfl
    · exact h1.eq rfl rfl

theorem KeysOk.dsyncPulse {s : State} (hs : KeysOk s) : KeysOk s.dsyncPulse := by
  have h1 : KeysOk s.syncTaken := hs.eq (by simp) (by simp)
  have h2 : KeysOk s.syncTaken.truncate := by unfold State.truncate; exact KeysOk.frameEnd (h1.eq rfl rfl)
  unfold State.dsyncPulse State.frameStartUnlessHeld
  repeat' split
  · exact hs
  · exact hs
  · exact h1.frameStart
  · exact h2
  · exact h2.frameStart
  · exact h1.eq (by simp) (by simp)

theorem KeysOk.resume {s : State} (hs : KeysOk s) : KeysOk s.resume := by
  unfold State.resume
  exact KeysOk.frameStart (hs.eq (by simp) (by simp))

theorem KeysOk.endHeld {s : State} (hs : KeysOk s) : KeysOk s.endHeld := by
  unfold State.endHeld
  exact KeysOk.resume (hs.eq (by simp) (by simp))

theorem KeysOk.takeSetting {s : State} (hs : KeysOk s) (w : Waiting) : KeysOk (s.takeSetting w) := by
  unfold State.takeSetting
  dsimp only
  split
  · exact KeysOk.applyWaiting (hs.eq rfl rfl)
  · exact hs.eq rfl rfl

theorem KeysOk.changeSetting {s : State} (hs : KeysOk s) (p code w fields) : KeysOk (s.changeSetting p code w fields) := by
  unfold State.changeSetting
  exact (hs.takeSetting w).eq (answer_keys ..) (by rw [answer_settings])

theorem KeysOk.restartCold {s : State} (hs : KeysOk s) : KeysOk s.restartCold := by
  unfold State.restartCold
  dsimp only
  split
  · next h => exact hs.eq rfl h.symm
  · exact KeysOk.judged (k := s.keys) rfl

theorem KeysOk.rest {s : State} (h : s.keys = restKeys) : KeysOk s := by
  constructor <;> simp [h, restKeys]

theorem setKey_key (k : Keys) (i j : Fin 4) (x : Key) : (k.setKey i x).key j = if j = i then x else k.key j := by
  fin_cases i <;> fin_cases j <;> rfl

theorem allPressed_iff (k : Keys) (c : KeyCombo) :
    k.allPressed c = true ↔ ∀ i : Fin 4, i.val < c.size → (k.key i).accepted = true := by
  cases c <;> simp [Keys.allPressed, Keys.levels, KeyCombo.size, Fin.forall_fin_succ, Keys.key]

/-- The relation between keys and a combination that `KeysOk` states. -/
def HoldOk (k : Keys) (c : KeyCombo) : Prop :=
  (c = .none → k.hold = .stopped) ∧ ∀ d, k.hold = .running d → k.allPressed c = true

theorem setKey_hold (k : Keys) (i : Fin 4) (x : Key) : (k.setKey i x).hold = k.hold := by
  fin_cases i <;> rfl

theorem HoldOk.take {k : Keys} {c : KeyCombo} (h : HoldOk k c) (i : Fin 4) (sample : Bool) : HoldOk (k.take c i sample) c := by
  unfold Keys.take
  dsimp only
  split
  · next ha =>
    have hk : ∀ j : Fin 4, ((k.setKey i ((k.key i).sampled sample)).key j).accepted = if j = i then sample else (k.key j).accepted := by
      intro j; rw [setKey_key]; split <;> simp [Key.sampled, ha]
    have hs : k.allPressed c = true → i.val < c.size → sample = false := by
      intro h1 h2
      have := (allPressed_iff _ _).1 h1 i h2
      simp [Key.accepts, this] at ha
      exact ha.2
    unfold holdAfterAcceptance
    obtain ⟨h1, h2⟩ := h
    constructor
    · intro hc; subst hc; simp [KeyCombo.size, setKey_hold, h1]
    · intro d hd
      dsimp only at hd
      change Keys.allPressed (k.setKey i _) c = true
      split at hd
      · next hi =>
        split at hd
        · split at hd
          · assumption
          · cases hd
        · next t ht =>
          rw [setKey_hold] at ht
          have := hs (h2 _ ht) hi
          simp [this] at hd
        · split at hd <;> cases hd
      · next hi =>
        rw [setKey_hold] at hd
        have := (allPressed_iff _ _).1 (h2 _ hd)
        rw [allPressed_iff]
        intro j hj
        rw [hk]; split
        · next e => subst e; exact absurd hj hi
        · exact this j hj
  · next ha =>
    have hk : ∀ j : Fin 4, ((k.setKey i ((k.key i).sampled sample)).key j).accepted = (k.key j).accepted := by
      intro j; rw [setKey_key]; split <;> simp_all [Key.sampled]
    obtain ⟨h1, h2⟩ := h
    constructor
    · intro hc; rw [setKey_hold]; exact h1 hc
    · intro d hd
      rw [setKey_hold] at hd
      rw [allPressed_iff]
      intro j hj
      rw [hk]; exact (allPressed_iff _ _).1 (h2 d hd) j hj

theorem KeysOk.sample {s t : State} (hs : KeysOk s) {a b c d : Bool} (h1 : t.keys = s.keys.sample s.settings.combo a b c d)
    (h2 : t.settings.combo = s.settings.combo) : KeysOk t := by
  have h0 : HoldOk s.keys s.settings.combo := ⟨hs.none, hs.running⟩
  have h3 : HoldOk (s.keys.sample s.settings.combo a b c d) s.settings.combo := (((h0.take 0 a).take 1 b).take 2 c).take 3 d
  rw [← h1, ← h2] at h3
  exact ⟨h3.1, h3.2⟩

end Sys2Proof.Machine
end

