-- ==== Sys2Proof/Laws/Quiet.lean ====
section
/-! SUPPORT. Only a restart enters STARTING. -/

namespace Sys2Proof.Machine

/-- `t` is in STARTING only if `s` is. -/
def Leaves (s t : State) : Prop := t.control.mode = .starting → s.control.mode = .starting

theorem Leaves.trans {s t u : State} (h : Leaves s t) (h' : Leaves t u) : Leaves s u := fun e => h (h' e)

theorem frameStart_leaves (s : State) : Leaves s s.frameStart := by
  unfold Leaves
  rw [frameStart_control]
  unfold State.enterSurvey
  repeat' split
  all_goals simp

theorem enterHeld_leaves (s : State) : Leaves s s.enterHeld := by
  simp [Leaves]

theorem surveyFrameEnd_leaves (s : State) : Leaves s s.surveyFrameEnd := by
  unfold State.surveyFrameEnd State.endSurvey Leaves
  repeat' split
  all_goals simp

theorem frameEnd_leaves (s : State) : Leaves s s.frameEnd := by
  have h : Leaves s s.trackEngine.enterTail := by simp [Leaves]
  unfold State.frameEnd
  dsimp only
  split
  · exact h.trans (enterHeld_leaves _)
  · exact h.trans (surveyFrameEnd_leaves _)
  all_goals exact h

theorem endSlot_leaves (s : State) (n o) : Leaves s (s.endSlot n o) := by
  unfold State.endSlot
  dsimp only
  split
  · exact id
  · exact frameEnd_leaves { s with frame := { s.frame with run := .none, outcomes := s.frame.outcomes.set n (some o) } }

theorem beginSlot_leaves (s : State) (n) : Leaves s (s.beginSlot n) := by
  have h1 : Leaves s (s.untilFrame (s.frame.slotTimes n).start) := by simp [Leaves]
  unfold State.beginSlot
  dsimp only
  repeat' split
  all_goals first
    | (refine Leaves.trans ?_ (endSlot_leaves _ _ _); exact h1)
    | exact h1

theorem truncate_leaves (s : State) : Leaves s s.truncate := by
  unfold State.truncate
  exact frameEnd_leaves _

theorem dsyncPulse_leaves (s : State) : Leaves s s.dsyncPulse := by
  have h1 : Leaves s s.syncTaken := by simp [Leaves]
  have h2 := h1.trans (truncate_leaves _)
  unfold State.dsyncPulse State.frameStartUnlessHeld
  repeat' split
  · exact id
  · exact id
  · exact h1.trans (frameStart_leaves _)
  · exact h2
  · exact h2.trans (frameStart_leaves _)
  · simpa [Leaves] using h1

theorem resume_leaves (s : State) : Leaves s s.resume := by
  unfold State.resume
  refine Leaves.trans ?_ (frameStart_leaves _)
  simp [Leaves]

theorem endHeld_leaves (s : State) : Leaves s s.endHeld := by
  unfold State.endHeld
  refine Leaves.trans ?_ (resume_leaves _)
  simp [Leaves]

@[simp] theorem changeSetting_control (s : State) (p code w f) : (s.changeSetting p code w f).control = s.control := by
  unfold State.changeSetting
  dsimp only
  rw [answer_control, takeSetting_control]

@[simp] theorem resetMode_leaves (s : State) (p : Port) : Leaves s (s.resetMode p) := by
  unfold State.resetMode
  dsimp only
  repeat' split
  · refine Leaves.trans ?_ (resume_leaves _); simp [Leaves]
  all_goals simp [Leaves]

/-- In STARTING no event is raised (R130). -/
theorem raiseBoth_starting {s : State} (h : s.control.mode = .starting) (e : Event) : s.raiseBoth e = s := by
  simp [State.raiseBoth, State.raise, h]

theorem raiseBothIf_starting {s : State} (h : s.control.mode = .starting) (c : Bool) (e : Event) : s.raiseBothIf c e = s := by
  unfold State.raiseBothIf
  split
  · exact raiseBoth_starting h e
  · rfl

/-- What a port holds throughout STARTING. -/
def PortState.Quiet (ps : PortState) : Prop :=
  ps.events = 0 ∧ ps.list0 = [] ∧ ps.list1 = [] ∧ ps.slot = .empty ∧ ps.store = .none ∧ ps.tickPoint = .off

end Sys2Proof.Machine
end

