-- ==== Sys2Proof/Laws/Ring.lean ====
section
/-! SUPPORT. What the shared operations do to the Sample Ring's invariant. -/

namespace Sys2Proof.Machine

/-- `t` has `s`'s ring, NextSeq and cursors. -/
def RingSame (s t : State) : Prop :=
  t.ring = s.ring ∧ t.nextSeq = s.nextSeq ∧ ∀ q, (t.port q).cursor = (s.port q).cursor

/-- A step that keeps the ring, NextSeq and the cursors keeps RingOk. -/
theorem RingOk.same {s t : State} (h : RingSame s t) (hs : RingOk s) : RingOk t := by
  obtain ⟨h1, h2, h3⟩ := h
  obtain ⟨a, b, c⟩ := hs
  refine ⟨by rw [h1]; exact a, ?_, ?_⟩
  · intro n hn
    simp only [h1, h2] at hn ⊢
    exact b n hn
  · intro p
    have := c p
    simp only [State.backlog] at this ⊢
    rw [h1, h2, h3]
    exact this

theorem numbered_length (q : BitVec 16) (rs : List Sample) : (numbered q rs).length = rs.length := by
  induction rs generalizing q <;> simp [numbered, *]

theorem numbered_seq (q : BitVec 16) (rs : List Sample) (n : Nat) (h : n < (numbered q rs).length) :
    (numbered q rs)[n].seq = q + BitVec.ofNat 16 n := by
  induction rs generalizing q n with
  | nil => simp [numbered] at h
  | cons r rest ih =>
    cases n with
    | zero => simp [numbered]
    | succ n =>
      simp only [numbered, List.getElem_cons_succ]
      rw [ih]
      have : BitVec.ofNat 16 (n + 1) = 1 + BitVec.ofNat 16 n := by
        simp [BitVec.ofNat_add, BitVec.add_comm]
      rw [this, BitVec.add_assoc]


/-- The backlog after an append with its overrun (R106). -/
theorem overrun_backlog (n c : BitVec 16) (L k : Nat) (h : (n - c).toNat ≤ L) (hL : L ≤ 512) (hk : k ≤ 2) :
    (n + BitVec.ofNat 16 k - (c + BitVec.ofNat 16 ((n - c).toNat + k - 512))).toNat ≤ L + k - (L + k - 512) := by
  have e : n + BitVec.ofNat 16 k - (c + BitVec.ofNat 16 ((n - c).toNat + k - 512))
      = BitVec.ofNat 16 ((n - c).toNat + k - ((n - c).toNat + k - 512)) := by
    have hn : n = c + BitVec.ofNat 16 (n - c).toNat := by
      rw [BitVec.ofNat_toNat, BitVec.setWidth_eq, BitVec.add_comm, BitVec.sub_add_cancel]
    generalize (n - c).toNat = b at *
    subst hn
    apply BitVec.eq_of_toNat_eq
    simp only [BitVec.toNat_sub, BitVec.toNat_add, BitVec.toNat_ofNat]
    omega
  rw [e, BitVec.toNat_ofNat]
  omega

/-- Records stand in Seq order up to `q` − 1. -/
def InOrder (xs : List Sample) (q : BitVec 16) : Prop :=
  ∀ n, (h : n < xs.length) → (xs[n]).seq + BitVec.ofNat 16 (xs.length - n) = q

theorem InOrder.drop {xs : List Sample} {q : BitVec 16} (h : InOrder xs q) (d : Nat) : InOrder (xs.drop d) q := by
  intro n hn
  rw [List.length_drop] at hn
  rw [List.getElem_drop, List.length_drop, Nat.sub_sub]
  exact h (d + n) (by omega)

theorem InOrder.append {xs : List Sample} {q : BitVec 16} (h : InOrder xs q) (rs : List Sample) :
    InOrder (xs ++ numbered q rs) (q + BitVec.ofNat 16 rs.length) := by
  intro m hm
  have hl : (xs ++ numbered q rs).length = xs.length + rs.length := by simp [numbered_length]
  rw [hl] at hm ⊢
  by_cases hlt : m < xs.length
  · rw [List.getElem_append_left hlt]
    have e : xs.length + rs.length - m = xs.length - m + rs.length := by omega
    rw [e, BitVec.ofNat_add, ← BitVec.add_assoc, h m hlt]
  · rw [List.getElem_append_right (by omega), numbered_seq, BitVec.add_assoc, ← BitVec.ofNat_add]
    have e : m - xs.length + (xs.length + rs.length - m) = rs.length := by omega
    rw [e]

/-- An append of at most two records keeps RingOk (R103, R106). -/
theorem RingOk.append {s : State} (hs : RingOk s) (rs : List Sample) (hr : rs.length ≤ 2) : RingOk (s.append rs) := by
  unfold State.append
  split
  · exact hs
  · obtain ⟨a, b, c⟩ := hs
    have hl : (s.ring ++ numbered s.nextSeq rs).length = s.ring.length + rs.length := by simp [numbered_length]
    refine ⟨?_, ?_, ?_⟩
    · simp [numbered_length, Config.ringCapacity]; omega
    · have := (InOrder.append (q := s.nextSeq) b rs).drop ((s.ring ++ numbered s.nextSeq rs).length - Config.ringCapacity)
      generalize hc : (s.ring ++ numbered s.nextSeq rs).length - Config.ringCapacity = d at this
      change InOrder (State.ring _) (State.nextSeq _)
      rw [raiseIf_ring, raiseIf_nextSeq, raiseIf_ring, raiseIf_nextSeq]
      dsimp only
      rw [hc]
      exact this
    · intro p
      have := c p
      cases p <;>
      · simp only [State.backlog, raiseIf_nextSeq, raiseIf_port_cursor, raiseIf_ring, List.length_drop, hl] at this ⊢
        exact overrun_backlog _ _ _ _ this a hr

theorem samplesOf_length (st : BitVec 16) (a b : ToolEnd) : (samplesOf st a b).length ≤ 2 := by
  unfold samplesOf
  cases a.draft <;> cases b.draft <;> simp

theorem RingOk.trackEngine {s : State} (hs : RingOk s) : RingOk s.trackEngine := by
  unfold State.trackEngine
  dsimp only
  have h1 : RingOk ((s.enterCode .t0 (s.toolEnd .t0).change).enterCode .t1 (s.toolEnd .t1).change) :=
    hs.same (by simp [RingSame])
  have h2 := h1.append (samplesOf s.stamp (s.toolEnd .t0) (s.toolEnd .t1)) (samplesOf_length _ _ _)
  exact h2.same (by simp [RingSame])

theorem RingOk.frameEnd {s : State} (hs : RingOk s) : RingOk s.frameEnd := by
  unfold State.frameEnd
  dsimp only
  split <;> exact hs.trackEngine.same (by simp [RingSame])

theorem RingOk.endSlot {s : State} (hs : RingOk s) (n o) : RingOk (s.endSlot n o) := by
  unfold State.endSlot
  dsimp only
  split
  · exact hs.same (by simp [RingSame])
  · exact RingOk.frameEnd (hs.same (by simp [RingSame]))

theorem RingOk.beginSlot {s : State} (hs : RingOk s) (n) : RingOk (s.beginSlot n) := by
  unfold State.beginSlot
  dsimp only
  repeat' split
  all_goals first
    | exact RingOk.endSlot (hs.same (by simp [RingSame])) _ _
    | exact hs.same (by simp [RingSame])

theorem RingOk.dsyncPulse {s : State} (hs : RingOk s) : RingOk s.dsyncPulse := by
  unfold State.dsyncPulse State.truncate
  repeat' split
  · exact hs
  · exact hs
  · exact hs.same (by simp [RingSame])
  · refine (RingOk.frameEnd (s := { s.syncTaken with frame := { s.syncTaken.frame with run := .none, next := 8, outcomes := truncatedOutcomes s.syncTaken.frame.outcomes } }) ?_).same (by simp [RingSame])
    exact hs.same (by simp [RingSame])
  · exact hs.same (by simp [RingSame])

/-- An empty ring with every cursor at NextSeq satisfies RingOk. -/
theorem RingOk.empty {s : State} (h1 : s.ring = []) (h2 : s.nextSeq = 0) (h3 : ∀ p, (s.port p).cursor = 0) : RingOk s := by
  refine ⟨by simp [h1], by simp [h1], ?_⟩
  intro p
  simp [State.backlog, h1, h2, h3]

/-- A cursor that moves on by at most its backlog keeps RingOk (R105). -/
theorem RingOk.advance {s : State} (hs : RingOk s) (p : Port) (r : Nat) (hr : r ≤ s.backlog p) : RingOk (s.advanceCursor p r) := by
  obtain ⟨a, b, c⟩ := hs
  refine ⟨by simpa [State.advanceCursor] using a, by simpa [State.advanceCursor] using b, ?_⟩
  intro q
  have := c q
  simp only [State.backlog, State.advanceCursor, setPort_nextSeq, setPort_ring, port_setPort] at this hr ⊢
  split
  · next h =>
    subst h
    rw [← BitVec.sub_sub]
    generalize s.nextSeq - (s.port q).cursor = x at *
    rw [BitVec.toNat_sub, BitVec.toNat_ofNat]
    omega
  · exact this

/-- A cursor set to NextSeq keeps RingOk (R105, R110). -/
theorem RingOk.newest {s t : State} (hs : RingOk s) (p : Port) (h1 : t.ring = s.ring) (h2 : t.nextSeq = s.nextSeq)
    (h3 : (t.port p).cursor = s.nextSeq) (h4 : (t.port p.other).cursor = (s.port p.other).cursor) : RingOk t := by
  obtain ⟨a, b, c⟩ := hs
  refine ⟨by rw [h1]; exact a, ?_, ?_⟩
  · intro n hn
    simp only [h1, h2] at hn ⊢
    exact b n hn
  · intro q
    have := c q
    unfold State.backlog at this ⊢
    by_cases hq : q = p
    · subst hq; simp [h2, h3]
    · have : q = p.other := by cases q <;> cases p <;> simp_all [Port.other]
      subst this
      rw [h1, h2, h4]
      exact c _

end Sys2Proof.Machine
end

