-- ==== Sys2Proof/Laws/Sync.lean ====
section
/-! SUPPORT. The invariant of the sync state through the shared operations. -/

namespace Sys2Proof.Machine

/-- `t` agrees with `s` on all that `SyncOk` reads. -/
def SyncSame (s t : State) : Prop :=
  t.frame.sync = s.frame.sync ∧ t.frame.syncTimer.isSome = s.frame.syncTimer.isSome ∧
    (t.frame.phase = .stopped ↔ s.frame.phase = .stopped) ∧ t.settings.timing.syncMode = s.settings.timing.syncMode ∧
    (t.control.mode = .starting → s.control.mode = .starting)

theorem SyncOk.same {s t : State} (hs : SyncOk s) (h : SyncSame s t) : SyncOk t := by
  obtain ⟨h1, h2, h3, h4, h5⟩ := h
  obtain ⟨a, b, c⟩ := hs
  exact ⟨by rw [h1, h4]; exact a, by rw [h1, h2, b, ne_eq, ne_eq, h3], fun h => by rw [h1]; exact c (h5 h)⟩

theorem SyncOk.elapse {s : State} (hs : SyncOk s) (d : Nat) : SyncOk (s.elapse d) :=
  hs.same (by simp [SyncSame])

theorem SyncOk.applyWaiting {s : State} (hs : SyncOk s) : SyncOk s.applyWaiting := by
  unfold State.applyWaiting
  split
  · refine SyncOk.same (s := State.syncEffects { s with settings := s.settings.applied s.waiting } s.settings.timing.syncMode) ?_ ?_
    · unfold State.syncEffects
      obtain ⟨a, b, c⟩ := hs
      split
      · constructor <;> simp_all
      · split <;> constructor <;> simp_all
    · unfold SyncSame
      refine ⟨?_, ?_, ?_, ?_, ?_⟩ <;> simp [State.syncEffects] <;> repeat' split
      all_goals simp_all
  · exact hs

theorem SyncOk.syncExpire {s : State} (hs : SyncOk s) (h : s.frame.syncTimer.isSome = true) : SyncOk s.syncExpire := by
  obtain ⟨a, b, c⟩ := hs
  have hl := (b.1 h).1
  refine ⟨?_, ?_, ?_⟩ <;> simp [State.syncExpire]
  rw [hl] at a
  simpa using a

theorem SyncOk.applied {u : State} (hu : SyncOk u) (tm f) :
    SyncOk ((u.applyWaiting.expireAfterChange tm).enterSurvey.layOut.tickBoth f) := by
  have h1 := hu.applyWaiting
  have h2 : SyncOk (u.applyWaiting.expireAfterChange tm) := by
    unfold State.expireAfterChange
    split
    · next t ht =>
      split
      · exact h1.syncExpire (by simp [ht])
      · exact h1
    · exact h1
  have h3 : SyncOk (u.applyWaiting.expireAfterChange tm).enterSurvey := by
    unfold State.enterSurvey
    repeat' split
    all_goals first | exact h2 | exact h2.same (by simp [SyncSame])
  exact h3.same (by simp [SyncSame])

theorem SyncOk.frameStart {s : State} (hs : SyncOk s) (h : s.frame.phase = .stopped → s.frame.sync ≠ .locked) : SyncOk s.frameStart := by
  unfold State.frameStart
  refine SyncOk.applied ?_ _ _
  obtain ⟨a, b, c⟩ := hs
  constructor
  · simpa using a
  · simp; rw [b]; constructor
    · exact fun h => h.1
    · exact fun hl => ⟨hl, fun h' => h h' hl⟩
  · simpa using c

theorem SyncOk.resume {s : State} (hs : SyncOk s) : SyncOk s.resume := by
  unfold State.resume
  refine SyncOk.frameStart ?_ (by intro _; dsimp only; split <;> simp_all)
  obtain ⟨a, b, c⟩ := hs
  constructor
  · by_cases hh : s.frame.sync = .locked <;> simp_all
  · by_cases hh : s.frame.sync = .locked <;> simp_all
  · by_cases hh : s.frame.sync = .locked <;> simp_all

theorem SyncOk.enterHeld {s : State} (hs : SyncOk s) : SyncOk s.enterHeld := by
  have h1 := hs.applyWaiting
  have h2 : SyncOk s.applyWaiting.stopFrames := by
    obtain ⟨a, b, c⟩ := h1
    constructor
    · simpa [State.stopFrames] using a
    · simp [State.stopFrames]
    · simpa [State.stopFrames] using c
  unfold State.enterHeld
  exact h2.same (by simp [SyncSame])

theorem SyncOk.endSurvey {s : State} (hs : SyncOk s) (p r) : SyncOk (s.endSurvey p r) := by
  unfold State.endSurvey
  exact hs.same (by simp [SyncSame])

theorem SyncOk.surveyFrameEnd {s : State} (hs : SyncOk s) : SyncOk s.surveyFrameEnd := by
  unfold State.surveyFrameEnd
  repeat' split
  · exact SyncOk.endSurvey (hs.same (by simp [SyncSame])) _ _
  · exact hs.endSurvey _ _
  · exact hs
  · exact hs

theorem SyncOk.frameEnd {s : State} (hs : SyncOk s) (h : s.frame.phase ≠ .stopped) : SyncOk s.frameEnd := by
  have ht : SyncOk s.trackEngine.enterTail := hs.same (by simp [SyncSame, h])
  unfold State.frameEnd
  dsimp only
  split
  · exact ht.enterHeld
  · exact ht.surveyFrameEnd
  all_goals exact ht

theorem SyncOk.endSlot {s : State} (hs : SyncOk s) (n o) (h : s.frame.phase ≠ .stopped) : SyncOk (s.endSlot n o) := by
  unfold State.endSlot
  dsimp only
  have h1 : SyncOk { s with frame := { s.frame with run := .none, outcomes := s.frame.outcomes.set n (some o) } } := hs.same (by simp [SyncSame])
  split
  · exact h1
  · exact SyncOk.frameEnd h1 h

theorem SyncOk.beginSlot {s : State} (hs : SyncOk s) (n) (h : s.frame.phase = .running) : SyncOk (s.beginSlot n) := by
  unfold State.beginSlot
  dsimp only
  split
  · refine SyncOk.endSlot (hs.same (by simp [SyncSame])) _ _ (by simp [h])
  · split
    · split
      · refine SyncOk.endSlot (hs.same (by simp [SyncSame])) _ _ (by simp [h])
      · exact hs.same (by simp [SyncSame])
    · exact hs.same (by simp [SyncSame])

theorem SyncOk.syncTaken {s : State} (hs : SyncOk s) (h : s.frame.phase ≠ .stopped) (h1 : s.frame.sync ≠ .free) (h2 : s.control.mode ≠ .starting) : SyncOk s.syncTaken := by
  obtain ⟨a, b, c⟩ := hs
  refine ⟨?_, ?_, ?_⟩ <;> simp [State.syncTaken, h, h2]
  exact fun h' => h1 (a.2 h')

theorem SyncOk.truncate {s : State} (hs : SyncOk s) (h : s.frame.phase ≠ .stopped) : SyncOk s.truncate := by
  unfold State.truncate
  exact SyncOk.frameEnd (hs.same (by simp [SyncSame])) h

theorem SyncOk.dsyncPulse {s : State} (hs : SyncOk s) (h2 : s.control.mode ≠ .starting) : SyncOk s.dsyncPulse := by
  unfold State.dsyncPulse State.frameStartUnlessHeld
  repeat' split
  · exact hs
  · exact hs
  · exact (hs.syncTaken (by simp_all) (by assumption) h2).frameStart (by simp_all)
  · exact (hs.syncTaken (by simp_all) (by assumption) h2).truncate (by simp_all)
  · next h => exact ((hs.syncTaken (by simp_all) (by assumption) h2).truncate (by simp_all)).frameStart (by rw [truncate_tail _ h]; simp)
  · exact (hs.syncTaken (by simp_all) (by assumption) h2).same (by simp [SyncSame])

theorem SyncOk.endHeld {s : State} (hs : SyncOk s) : SyncOk s.endHeld := by
  unfold State.endHeld
  exact SyncOk.resume (hs.same (by simp [SyncSame]))

theorem SyncOk.takeSetting {s : State} (hs : SyncOk s) (w : Waiting) : SyncOk (s.takeSetting w) := by
  unfold State.takeSetting
  dsimp only
  split
  · exact SyncOk.applyWaiting (hs.same (by simp [SyncSame]))
  · exact hs.same (by simp [SyncSame])

theorem SyncOk.changeSetting {s : State} (hs : SyncOk s) (p code w fields) : SyncOk (s.changeSetting p code w fields) := by
  unfold State.changeSetting
  refine (hs.takeSetting w).same ?_
  unfold SyncSame
  rw [answer_frame, answer_settings, answer_control]
  simp

end Sys2Proof.Machine
end

