-- ==== Sys2Proof/Laws/Tool.lean ====
section
/-! SUPPORT. The tool records' invariant through the Track Engine and the shared operations. -/

namespace Sys2Proof.Machine

/-! ## One tool's frame end -/

theorem vacantTool_ok : ToolOk vacantTool := by
  constructor <;> simp [vacantTool]

/-- What `ToolOk` says of the identity and code fields. -/
structure CodeOk (t : Tool) : Prop where
  identity : t.identity.isSome = true ↔ t.identityStatus = .known
  candidate : t.identityCandidate.isSome = true ↔ t.identityStatus ≠ .unknown
  assembly : ∀ bits, t.assembly = some bits → 1 ≤ bits.length ∧ bits.length ≤ 32

theorem CodeOk.cycle {t : Tool} (h : CodeOk t) (v : BitVec 32) : CodeOk (t.identityCycle v) := by
  obtain ⟨a, b, c⟩ := h
  unfold Tool.identityCycle
  repeat' split
  all_goals (constructor <;> simp_all)

theorem CodeOk.assembled {t : Tool} (h : CodeOk t) (v : Option Symbol) : CodeOk { t with assembly := assemblyAfter t.assembly v } := by
  obtain ⟨a, b, c⟩ := h
  refine ⟨a, b, ?_⟩
  intro bits
  dsimp only
  unfold assemblyAfter
  repeat' split
  all_goals (rintro ⟨⟩)
  · simp
  · next hb hl => have := c _ hb; simp; omega
  · next hb hl => exact c _ hb

theorem CodeOk.codeStep {t : Tool} (h : CodeOk t) (v : Option Symbol) : CodeOk (t.codeStep v) := by
  unfold Tool.codeStep Tool.identityStep
  have h1 : CodeOk (t.debounce v) := ⟨h.identity, h.candidate, h.assembly⟩
  dsimp only
  split
  · exact (h1.assembled v).cycle _
  · exact h1.assembled v

/-- The fields the code step leaves alone. -/
theorem codeStep_frame (t : Tool) (v : Option Symbol) : (t.codeStep v).state = t.state ∧ (t.codeStep v).rep = t.rep ∧
    (t.codeStep v).pos = t.pos ∧ (t.codeStep v).confirmCount = t.confirmCount ∧ (t.codeStep v).fadeCount = t.fadeCount ∧
    (t.codeStep v).strokeOpen = t.strokeOpen := by
  unfold Tool.codeStep Tool.identityStep Tool.identityCycle Tool.debounce
  dsimp only
  repeat' split
  all_goals simp

/-- The fields the tilt step leaves alone. -/
theorem tiltStep_frame (e : TrackEnv) (b : Bool) (t : Tool) : (tiltStep e b t).state = t.state ∧ (tiltStep e b t).rep = t.rep ∧
    (tiltStep e b t).pos = t.pos ∧ (tiltStep e b t).confirmCount = t.confirmCount ∧ (tiltStep e b t).fadeCount = t.fadeCount ∧
    (tiltStep e b t).strokeOpen = t.strokeOpen ∧ (tiltStep e b t).identity = t.identity ∧ (tiltStep e b t).identityStatus = t.identityStatus ∧
    (tiltStep e b t).identityCandidate = t.identityCandidate ∧ (tiltStep e b t).assembly = t.assembly := by
  unfold tiltStep Tool.withHeldTilt Tool.withFreshTilt Tool.clampHeldTilt
  dsimp only
  repeat' split
  all_goals simp

/-- A tool that stays in HOVER, CONTACT or FADE, before its tilt step, code step and pressure. -/
structure StaysOk (t : Tool) : Prop where
  state : t.state = .hover ∨ t.state = .contact ∨ t.state = .fade
  rep : t.rep.isSome = true
  pos : t.pos.isSome = true
  confirm : t.confirmCount = Config.confirmFrames
  fade : t.fadeCount = 0 ↔ t.state ≠ .fade
  strokeOpen : t.strokeOpen = true → t.state = .contact ∨ t.state = .fade
  contact : t.state = .contact → t.strokeOpen = true
  code : CodeOk t

theorem afterTransition_ok {e : TrackEnv} {o h m} {t : Tool} (ht : StaysOk t) : ToolOk (afterTransition e o h t m).record := by
  have hn : t.state ≠ .acquire := by rcases ht.state with h | h | h <;> simp [h]
  have hv : t.state ≠ .vacant := by rcases ht.state with h | h | h <;> simp [h]
  unfold afterTransition ToolEnd.record
  simp only [hn, if_false]
  obtain ⟨a1, a2, a3, a4, a5, a6⟩ := codeStep_frame (tiltStep e o.isSome t) (validSymbol e.effHold e.obs.code)
  obtain ⟨b1, b2, b3, b4, b5, b6, b7, b8, b9, b10⟩ := tiltStep_frame e o.isSome t
  have hc : CodeOk ((tiltStep e o.isSome t).codeStep (validSymbol e.effHold e.obs.code)) := by
    refine CodeOk.codeStep ⟨?_, ?_, ?_⟩ _
    · rw [b7, b8]; exact ht.code.identity
    · rw [b9, b8]; exact ht.code.candidate
    · rw [b10]; exact ht.code.assembly
  generalize (tiltStep e o.isSome t).codeStep (validSymbol e.effHold e.obs.code) = u at *
  rw [b1] at a1; rw [b2] at a2; rw [b3] at a3; rw [b4] at a4; rw [b5] at a5; rw [b6] at a6
  rw [if_neg (by rw [a1]; exact hv)]
  obtain ⟨c1, c2, c3, c4, c5, c6, c7, -⟩ := ht
  constructor <;> simp only [a1, a2, a3, a4, a5, a6]
  · exact fun h => absurd h hv
  · exact fun h => absurd h hn
  · exact fun _ => ⟨c2, c3, c4⟩
  · exact c5
  · exact c6
  · exact c7
  · intro h; by_contra hcon; apply h; unfold reportedPressure; cases hs : t.state <;> simp_all
  · exact hc.identity
  · exact hc.candidate
  · exact hc.assembly

theorem departure_ok (l : Nat) (t : Tool) : ToolOk (departure l t).record := by
  unfold departure ToolEnd.record
  split <;> simp [vacantTool]
  all_goals exact vacantTool_ok

theorem ToolOk.code {t : Tool} (h : ToolOk t) : CodeOk t := ⟨h.identity, h.candidate, h.assembly⟩

theorem ToolOk.stays {t : Tool} (h : ToolOk t) (hs : t.state = .hover ∨ t.state = .contact ∨ t.state = .fade) : StaysOk t :=
  ⟨hs, (h.entered hs).1, (h.entered hs).2.1, (h.entered hs).2.2, h.fade, h.strokeOpen, h.contact, h.code⟩

theorem staying {t : Tool} (h1 : t.state ≠ .vacant) (h2 : t.state ≠ .acquire) : t.state = .hover ∨ t.state = .contact ∨ t.state = .fade := by
  cases h : t.state <;> simp_all

/-- A tool in ACQUIRE whose record changed only in raw, corrected position and counts stays sound. -/
theorem ToolOk.acquiring {t u : Tool} (h : ToolOk t) (ht : t.state = .acquire)
    (hu : ∃ r p k m c, u = { t with raw := r, pos := p, missCount := k, lastObs := m, confirmCount := c } ∧ c < Config.confirmFrames)
    {e o hb m} : ToolOk (afterTransition e o hb u m).record := by
  obtain ⟨r, p, k, m', c, rfl, hc⟩ := hu
  unfold afterTransition ToolEnd.record
  simp only [ht, if_true]
  obtain ⟨a1, a2, a3, a4, a5, a6, a7, a8, a9, a10⟩ := h
  rw [if_neg (by decide)]
  constructor <;> simp_all

theorem toolFrameEnd_ok {e : TrackEnv} {t : Tool} (h : ToolOk t) : ToolOk (toolFrameEnd e t).record := by
  unfold toolFrameEnd
  split
  · simp [ToolEnd.record, vacantTool, ]
    exact vacantTool_ok
  · next hv =>
    split
    · exact departure_ok _ _
    · split
      · unfold ToolEnd.record; rw [if_neg hv]; exact h
      · -- missing
        unfold missingEnd
        dsimp only
        split
        · exact departure_ok _ _
        · by_cases ha : t.state = .acquire
          · exact h.acquiring ha ⟨t.raw, t.pos, _, t.lastObs, t.confirmCount, rfl, (h.acquire ha).2.2.2.2.2.2.2.2.2.2.2.2.2.2⟩
          · refine afterTransition_ok ?_
            have := h.stays (staying hv ha)
            exact ⟨this.state, this.rep, this.pos, this.confirm, this.fade, this.strokeOpen, this.contact, ⟨this.code.identity, this.code.candidate, this.code.assembly⟩⟩
      · -- weak
        unfold weakEnd
        dsimp only
        split
        · exact departure_ok _ _
        · next hw =>
          refine afterTransition_ok ?_
          have ha : t.state ≠ .acquire := fun ha => hw (.inl ha)
          have := h.stays (staying hv ha)
          refine ⟨.inr (.inr rfl), this.rep, this.pos, this.confirm, ?_, ?_, ?_, ⟨this.code.identity, this.code.candidate, this.code.assembly⟩⟩
          · simp [fadeCountAfter]; split <;> omega
          · simp
          · simp
      · -- strong
        next o ho =>
        unfold strongEnd
        dsimp only
        by_cases ha : t.state = .acquire
        · have hc := (h.acquire ha).2.2.2.2.2.2.2.2.2.2.2.2.2.2
          simp only [positionUpdate, ha, if_true, strongTransition]
          split
          · next hcc => 
            refine h.acquiring ha ?_
            exact ⟨trackRaw e.settings o, some (corrected e.settings (trackRaw e.settings o)), 0, e.count, t.confirmCount + 1, by simp [ha], hcc⟩
          · refine afterTransition_ok ?_
            have hq := h.acquire ha
            refine ⟨.inl rfl, rfl, rfl, rfl, by simp [Tool.entered], by simp [Tool.entered], by simp [Tool.entered], ⟨h.identity, h.candidate, h.assembly⟩⟩
        · have hs := h.stays (staying hv ha)
          have hcode : CodeOk (positionUpdate e { t with missCount := 0 } o) := by
            simp only [positionUpdate, ha, if_false]
            exact ⟨h.identity, h.candidate, h.assembly⟩
          have hu : (positionUpdate e { t with missCount := 0 } o).state = t.state ∧ (positionUpdate e { t with missCount := 0 } o).rep.isSome = true ∧
              (positionUpdate e { t with missCount := 0 } o).pos.isSome = true ∧ (positionUpdate e { t with missCount := 0 } o).confirmCount = t.confirmCount ∧
              (positionUpdate e { t with missCount := 0 } o).fadeCount = t.fadeCount ∧ (positionUpdate e { t with missCount := 0 } o).strokeOpen = t.strokeOpen := by
            simp only [positionUpdate, ha, if_false]
            refine ⟨trivial, ?_, rfl, trivial, trivial, trivial⟩
            split
            · exact hs.rep
            · rfl
          generalize positionUpdate e { t with missCount := 0 } o = u at *
          obtain ⟨u1, u2, u3, u4, u5, u6⟩ := hu
          obtain ⟨c1, c2, c3, c4, c5, c6, c7, -⟩ := hs
          refine afterTransition_ok ?_
          have cc := hcode
          obtain ⟨d1, d2, d3⟩ := hcode
          unfold strongTransition
          rcases c1 with c1 | c1 | c1
          · rw [u1, c1]; dsimp only
            split
            · constructor <;> simp_all [Tool.strokeBegun]
              exact ⟨d1, d2, d3⟩
            · constructor <;> simp_all [Tool.hovering]
              exact ⟨d1, d2, d3⟩
          · rw [u1, c1]; dsimp only
            split
            · constructor <;> simp_all [Tool.strokeEnded]
              exact ⟨d1, d2, d3⟩
            · constructor <;> simp_all
          · rw [u1, c1]; dsimp only
            repeat' split
            all_goals (constructor <;> simp_all [Tool.strokeEnded, Tool.strokeBegun, Tool.hovering])
            all_goals exact ⟨d1, d2, d3⟩

/-! ## The state -/

theorem ToolsOk.eq {s t : State} (hs : ToolsOk s) (h0 : t.tool0 = s.tool0) (h1 : t.tool1 = s.tool1) : ToolsOk t := by
  intro i
  have := hs i
  cases i
  · rw [State.tool, h0]; exact this
  · rw [State.tool, h1]; exact this

theorem ToolsOk.both {s : State} (h0 : ToolOk s.tool0) (h1 : ToolOk s.tool1) : ToolsOk s := by
  intro i
  cases i
  · exact h0
  · exact h1

theorem markRelease_ok {t : Tool} (h : ToolOk t) (a b) : ToolOk (markRelease a b t) := by
  unfold markRelease
  split
  · next hc =>
    obtain ⟨a1, a2, a3, a4, a5, a6, a7, a8, a9, a10⟩ := h
    exact ⟨fun hv => absurd hv hc.1, a2, a3, a4, a5, a6, a7, a8, a9, a10⟩
  · exact h

theorem ToolsOk.applyWaiting {s : State} (hs : ToolsOk s) : ToolsOk s.applyWaiting := by
  have h0 : ToolOk s.tool0 := hs .t0
  have h1 : ToolOk s.tool1 := hs .t1
  unfold State.applyWaiting
  split
  · exact ToolsOk.both (by simpa [State.profileEffects] using markRelease_ok h0 _ _) (by simpa [State.profileEffects] using markRelease_ok h1 _ _)
  · exact hs

theorem ToolsOk.applied {u : State} (h : ToolsOk u) (tm f) :
    ToolsOk ((u.applyWaiting.expireAfterChange tm).enterSurvey.layOut.tickBoth f) :=
  h.applyWaiting.eq (by simp) (by simp)

theorem ToolsOk.frameStart {s : State} (hs : ToolsOk s) : ToolsOk s.frameStart := by
  unfold State.frameStart
  refine ToolsOk.applied ?_ _ _
  exact hs.eq (by simp) (by simp)

theorem ToolsOk.resume {s : State} (hs : ToolsOk s) : ToolsOk s.resume := by
  unfold State.resume
  refine ToolsOk.frameStart ?_
  exact hs.eq rfl rfl

theorem ToolsOk.endHeld {s : State} (hs : ToolsOk s) : ToolsOk s.endHeld := by
  unfold State.endHeld
  refine ToolsOk.resume ?_
  exact hs.eq (by simp) (by simp)

theorem trackEngine_tool0 (s : State) : s.trackEngine.tool0 = (s.toolEnd .t0).record := by
  simp [State.trackEngine]

theorem trackEngine_tool1 (s : State) : s.trackEngine.tool1 = (s.toolEnd .t1).record := by
  simp [State.trackEngine]

theorem ToolsOk.trackEngine {s : State} (hs : ToolsOk s) : ToolsOk s.trackEngine :=
  ToolsOk.both (by rw [trackEngine_tool0]; exact toolFrameEnd_ok (hs .t0)) (by rw [trackEngine_tool1]; exact toolFrameEnd_ok (hs .t1))

theorem ToolsOk.frameEnd {s : State} (hs : ToolsOk s) : ToolsOk s.frameEnd := by
  have ht : ToolsOk s.trackEngine.enterTail := hs.trackEngine.eq rfl rfl
  unfold State.frameEnd
  dsimp only
  split
  · unfold State.enterHeld
    exact ht.applyWaiting.eq (by simp) (by simp)
  · exact ht.eq (by simp) (by simp)
  all_goals exact ht

theorem ToolsOk.endSlot {s : State} (hs : ToolsOk s) (n o) : ToolsOk (s.endSlot n o) := by
  unfold State.endSlot
  dsimp only
  split
  · exact hs.eq rfl rfl
  · exact ToolsOk.frameEnd (hs.eq rfl rfl)

theorem ToolsOk.beginSlot {s : State} (hs : ToolsOk s) (n) : ToolsOk (s.beginSlot n) := by
  unfold State.beginSlot
  dsimp only
  repeat' split
  all_goals first
    | exact hs.eq rfl rfl
    | (refine ToolsOk.endSlot ?_ _ _; exact hs.eq rfl rfl)

theorem ToolsOk.dsyncPulse {s : State} (hs : ToolsOk s) : ToolsOk s.dsyncPulse := by
  have h1 : ToolsOk s.syncTaken := hs.eq (by simp) (by simp)
  have h2 : ToolsOk s.syncTaken.truncate := by
    unfold State.truncate
    refine ToolsOk.frameEnd ?_
    exact h1.eq rfl rfl
  unfold State.dsyncPulse State.frameStartUnlessHeld
  repeat' split
  · exact hs
  · exact hs
  · exact h1.frameStart
  · exact h2
  · exact h2.frameStart
  · exact h1.eq rfl rfl

theorem ToolsOk.takeSetting {s : State} (hs : ToolsOk s) (w : Waiting) : ToolsOk (s.takeSetting w) := by
  unfold State.takeSetting
  dsimp only
  split
  · exact ToolsOk.applyWaiting (hs.eq rfl rfl)
  · exact hs.eq rfl rfl

theorem ToolsOk.changeSetting {s : State} (hs : ToolsOk s) (p c w f) : ToolsOk (s.changeSetting p c w f) := by
  unfold State.changeSetting
  exact (hs.takeSetting w).eq (answer_tool0 ..) (answer_tool1 ..)

theorem placedTool_ok (i x y c) : ToolOk (placedTool i x y c) := by
  constructor <;> simp [placedTool, vacantTool, Config.confirmFrames]

theorem ToolsOk.place {s : State} (hs : ToolsOk s) (k) : ToolsOk (s.place k) := by
  unfold State.place
  repeat' split
  all_goals first
    | exact hs
    | exact ToolsOk.both (placedTool_ok ..) (hs .t1)
    | exact ToolsOk.both (hs .t0) (placedTool_ok ..)

theorem ToolsOk.handOn {s : State} (hs : ToolsOk s) (j r) : ToolsOk (s.handOn j r) := by
  unfold State.handOn
  split
  case h_5 =>
    unfold State.locateResult
    dsimp only
    split
    · refine hs.eq ?_ ?_ <;> rfl
    · generalize keepBest _ _ _ _ = k
      have := hs.place k
      exact this.eq rfl rfl
  all_goals first
    | exact hs.eq (by simp) (by simp)
    | (split <;> exact hs.eq (by simp) (by simp))

end Sys2Proof.Machine
end

