-- ==== Sys2Proof/Tests/Slice0.lean ====
section
/-! SUPPORT. Tests: the well-formedness check's smoke tests, transactions written out byte by byte from chapter 13, the spec's worked cases, a few single steps, and for every obligation with hypotheses a witness that they can be met. -/

namespace Sys2Proof.Machine

/-! ## Well-formedness -/

/-- 0x20 is Read Attention, a known code. -/
theorem test_unknown_code_known : (Instr.unknownCode .s 0x20).wf = false := by decide

/-- 0x00 is Fetch Response. -/
theorem test_unknown_code_zero : (Instr.unknownCode .s 0).wf = false := by decide

theorem test_unknown_code : (Instr.unknownCode .s 0x99).wf = true := by decide

/-- 0x99 is no code of chapter 13. -/
theorem test_bad_length_unknown : (Instr.badLength .d 0x99).wf = false := by decide

/-- A reading of 12 equal channels. -/
def flat (a : Nat) (n : Nat) (ph : Nat) : Reading :=
  { x := List.replicate n a, y := List.replicate 12 a, phase := List.replicate 12 ph, symbol := ⟨0, false, false⟩ }

theorem test_reading : (Instr.listenEnd (flat 4095 12 1023)).wf = true := by decide

theorem test_reading_short : (Instr.listenEnd (flat 4095 11 0)).wf = false := by decide

theorem test_reading_amplitude : (Instr.listenEnd (flat 4096 12 0)).wf = false := by decide

theorem test_reading_phase : (Instr.listenEnd (flat 0 12 1024)).wf = false := by decide

/-! ## Transactions, byte by byte (R121, R122, R175, R176) -/

theorem test_decode_read_samples : decodeTransaction .s [0x10, 1, 16] = some (.readSamples .s 16) := by decide

theorem test_decode_set_watermark : decodeTransaction .d [0x29, 2, 0x01, 0x2C] = some (.setWatermark .d 300) := by decide

theorem test_decode_set_timing :
    decodeTransaction .s [0x41, 4, 0x10, 0x46, 1, 2] = some (.setTiming .s 4166 1 2) := by decide

/-- A request with no argument: bytes past the length byte are discarded. -/
theorem test_decode_extra : decodeTransaction .d [0x70, 0, 0xFF] = some (.portReset .d) := by decide

theorem test_decode_short : decodeTransaction .d [0x29, 2, 0x01] = some (.badLength .d 0x29) := by decide

theorem test_decode_length : decodeTransaction .d [0x29, 1, 0x01, 0x2C] = some (.badLength .d 0x29) := by decide

theorem test_decode_unknown : decodeTransaction .d [0x99, 0] = some (.unknownCode .d 0x99) := by decide

/-- dx = −900 is 0xFC7C in two's complement, and is clamped to −512 when it is taken. -/
theorem test_decode_map_row :
    let node : NodeArgs := ⟨0, 0⟩
    decodeTransaction .s ([0x45, 37, 6, 0xFC, 0x7C] ++ List.replicate 34 0)
      = some (.setMapRow .s 6 #v[⟨BitVec.ofInt 16 (-900), 0⟩, node, node, node, node, node, node, node, node])
    ∧ nodeOf ⟨0xFC7C, 0⟩ = ⟨-512, 0⟩ := by decide

/-! ## Worked cases -/

/-- 4.6: the offsets of frame 521. -/
theorem test_offsets :
    peakOffset [310, 1480, 2950, 2210, 520] = 42 ∧ peakOffset [200, 1900, 2600, 1100, 150] = -47 := by decide

/-- 4.6: the raw position of frame 521. -/
theorem test_raw :
    windowPosition 40 [310, 1480, 2950, 2210, 520] 24320 = 10282
    ∧ windowPosition 22 [200, 1900, 2600, 1100, 150] 15104 = 5585 := by decide

/-- Settings whose map holds `a`, `b`, `c`, `d` at the nodes (i, j), (i + 1, j), (i, j + 1), (i + 1, j + 1). -/
def mapped (i : Fin 8) (j : Fin 6) (a b c d : Pt) : Settings :=
  { defaultSettings with
    map := (defaultSettings.map.set j ((zeroRow.set i a).set (i.val + 1) b)).set (j.val + 1)
      ((zeroRow.set i c).set (i.val + 1) d) }

/-- 4.6: the corrected position of frame 521. -/
theorem test_corrected :
    corrected (mapped 3 2 ⟨12, -6⟩ ⟨20, -6⟩ ⟨4, -6⟩ ⟨-8, -6⟩) ⟨10282, 5585⟩ = ⟨10294, 5579⟩ := by decide

/-- 4.6: the prediction with Lead 5000. -/
theorem test_lead : leadDelta 44 5000 2500 = 88 := by decide

/-- 4.7: an edge on either side, and a tie midway between coils 49 and 50. -/
theorem test_edges :
    windowPosition 30 [100, 400, 900, 1800, 2600] 24320 = 8192 ∧ windowPosition 2 [3100, 2400, 900, 200, 50] 24320 = 0
    ∧ windowPosition 50 [1200, 2000, 2000, 900, 100] 24320 = 12672 := by decide

/-- 4.7: exactly −0.5 rounds away from zero. -/
theorem test_half : (corrected (mapped 0 0 ⟨-1, 0⟩ ⟨0, 0⟩ ⟨0, 0⟩ ⟨0, 0⟩) ⟨1520, 0⟩).x = 1519 := by decide

/-- 4.7: the far corner takes node (8, 6) whole, and the sum is clamped to the span. -/
theorem test_corner :
    mapOffset (mapped 7 5 ⟨9, 9⟩ ⟨9, 9⟩ ⟨9, 9⟩ ⟨20, 0⟩) ⟨24320, 15104⟩ = ⟨20, 0⟩
    ∧ (corrected (mapped 7 5 ⟨9, 9⟩ ⟨9, 9⟩ ⟨9, 9⟩ ⟨20, 0⟩) ⟨24320, 15104⟩).x = 24320 := by decide

/-- 5.6: the normalised value and the pressure of frame 521. -/
theorem test_pressure :
    normalised (signedOffset 260 100) 400 = 3276
    ∧ curve { down := 164, up := 82, x1 := 2048, y1 := 1024, x2 := 4096, y2 := 3072, x3 := 6144, y3 := 5632 } 3276 = 2252 := by
  decide

/-- 5.6: the tilt of frame 521. -/
theorem test_tilt : freshTilt ⟨10922, 5375⟩ ⟨10282, 5585⟩ 1280 = ⟨300, -94⟩ := by decide

/-- 5.7: the resting phase drifts, and wraps across 0. -/
theorem test_adapted :
    adapted 100 (signedOffset 60 100) = 100 ∧ adapted 100 (signedOffset 75 100) = 97 ∧ adapted 93 (signedOffset 88 93) = 93
    ∧ adapted 2 (signedOffset 1010 2) = 0 ∧ adapted 0 (signedOffset 1012 0) = 1023 ∧ signedOffset 3 1023 = 4 := by decide

/-- 5.7: n of frames 607 and 703. -/
theorem test_normalised : normalised 8 400 = 164 ∧ normalised 4 400 = 82 := by decide

/-- The D-port's view of 7.10. -/
def inset (o : Orientation) : View :=
  { kind := .display, x0 := 256, x1 := 24063, y0 := 256, y1 := 14847, width := 3840, height := 2160, orientation := o,
    lead := 5000 }

/-- 7.10: one record in four orientations. -/
theorem test_orientations :
    (inset .deg0).mapPos defaultSettings ⟨10294, 5579⟩ = ⟨1619, 787, false⟩
    ∧ (inset .deg90).mapPos defaultSettings ⟨10294, 5579⟩ = ⟨2438, 910, false⟩
    ∧ (inset .deg180).mapPos defaultSettings ⟨10294, 5579⟩ = ⟨2220, 1372, false⟩
    ∧ (inset .deg270).mapPos defaultSettings ⟨10294, 5579⟩ = ⟨1400, 1249, false⟩ := by decide

/-- 7.10: the tilt turned with the view. -/
theorem test_turned :
    (inset .deg90).mapTilt ⟨300, -94⟩ = ⟨94, 300⟩ ∧ (inset .deg180).mapTilt ⟨300, -94⟩ = ⟨-300, 94⟩
    ∧ (inset .deg270).mapTilt ⟨300, -94⟩ = ⟨-94, -300⟩ := by decide

/-- 7.10: out of the area. -/
theorem test_out :
    (inset .deg0).mapPos defaultSettings ⟨100, 5579⟩ = ⟨0, 787, true⟩
    ∧ ({ inset .deg0 with kind := .grid } : View).mapPos defaultSettings ⟨100, 5579⟩ = ⟨100, 5579, true⟩ := by decide

/-! ## States the tests start from -/

/-- A part that scans: frame 5 has run 60 µs and no slot has begun. -/
def scan : State :=
  { State.reset with
    pins := { State.reset.pins with startup := none }
    control := { State.reset.control with mode := .scanning }
    frame := { State.reset.frame with phase := .running, timer := 60, count := 5, next := 0 } }

/-- `s` with what port `p` holds changed by `f`. -/
def State.at (s : State) (p : Port) (f : PortState → PortState) : State := s.setPort p (f (s.port p))

/-- `s` with a task slot of port `p`. -/
def State.slotIs (s : State) (p : Port) (k : TaskSlot) : State := s.at p fun ps => { ps with slot := k }

/-- A port whose Set Plan is pending. -/
def planned (p : Port) : State :=
  { scan with frame := { scan.frame with pendingPlan := some ⟨defaultPlan, p⟩ } }.slotIs p (.running .setPlan)

/-- HOLDING, owned by `p`. -/
def holding (p : Port) : State :=
  { scan with control := { scan.control with mode := .holding, owner := some p } }.slotIs p (.running .holdScan)

/-- HELD, owned by `p`, its task collected. -/
def held (p : Port) : State :=
  { scan with
    control := { scan.control with mode := .held, owner := some p, resumeDelay := 1, autoResume := some 0 }
    frame := { scan.frame with phase := .stopped } }

/-- A survey waits, taken from `p`. -/
def reserved (p : Port) : State :=
  { scan with control := { scan.control with reservation := some ⟨p, .response, 3⟩ } }.slotIs p (.running .coilSurvey)

/-- A survey in its n-th frame. -/
def surveyAt (n : Nat) (done : Bool) : Survey :=
  { kind := .baseline, profile := 0, frames := n, bx := 0, byy := 0, xDone := done, yDone := done, xs := [], ys := [] }

/-- SURVEY, owned by `p`. -/
def surveying (p : Port) (v : Survey) : State :=
  { scan with control := { scan.control with mode := .survey, owner := some p, survey := some v } }.slotIs p (.running .coilSurvey)

/-- A capture of two entries, owned by `p`. -/
def twoEntries (p : Port) : Capture :=
  { kind := .baseline, profile := 0, xCount := 96, yCount := 60, stamp := 7, entries := [10, 4095], owner := p }

/-- The Capture Buffer holds it. -/
def captured (p : Port) : State := { scan with control := { scan.control with capture := some (twoEntries p) } }

/-- A tool in HOVER at (10250, 5580). -/
def hovering : Tool :=
  { vacantTool with state := .hover, raw := ⟨10250, 5580⟩, pos := some ⟨10250, 5580⟩, rep := some ⟨10250, 5580⟩,
                    phaseZero := 100, confirmCount := 3, lastObs := 4, stroke := 3 }

/-- T0 hovers and its two last records wait at the S-port. -/
def live : State :=
  { scan with
    tool0 := hovering
    ring := [sampleOf .t0 3 hovering ⟨.motion, false, false, false, false⟩, sampleOf .t0 4 hovering ⟨.motion, false, false, false, false⟩].zipIdx.map
      fun (r, i) => { r with seq := BitVec.ofNat 16 i }
    nextSeq := 2, portD := { scan.portD with cursor := 2 } }

/-! ## Invariants of those states -/

theorem planned_ok (p : Port) : ModeOk (planned p) ∧ TasksOk (planned p) := by
  cases p <;> exact ⟨by constructor <;> decide, by constructor <;> (intro q; cases q <;> decide)⟩

theorem holding_ok (p : Port) : ModeOk (holding p) ∧ TasksOk (holding p) := by
  cases p <;> exact ⟨by constructor <;> decide, by constructor <;> (intro q; cases q <;> decide)⟩

theorem held_ok (p : Port) : ModeOk (held p) ∧ TasksOk (held p) := by
  cases p <;> exact ⟨by constructor <;> decide, by constructor <;> (intro q; cases q <;> decide)⟩

theorem reserved_ok (p : Port) : ModeOk (reserved p) ∧ TasksOk (reserved p) := by
  cases p <;> exact ⟨by constructor <;> decide, by constructor <;> (intro q; cases q <;> decide)⟩

theorem surveying_ok (p : Port) (v : Survey) : ModeOk (surveying p v) ∧ TasksOk (surveying p v) := by
  cases p <;> exact ⟨by constructor <;> simp [surveying, State.slotIs, State.at, scan, State.setPort, State.reset, restControl,
      restFrame, Mode.owned, Mode.still], by constructor <;> (intro q; cases q <;> simp [surveying, State.slotIs, State.at, scan, State.setPort, State.port, State.reset, restControl, restFrame, defaultPort])⟩

theorem live_mode : ModeOk live := by constructor <;> decide

theorem live_tasks : TasksOk live := by constructor <;> (intro p; cases p <;> decide)

theorem live_ring : RingOk live := ⟨by decide, by decide, by intro p; cases p <;> decide⟩

theorem live_ports : PortsOk live := by intro p; cases p <;> (constructor <;> decide)

theorem live_store : StoreOk live := storeOk_default rfl rfl rfl rfl (by intro p; cases p <;> rfl)

theorem live_sync : SyncOk live := by constructor <;> decide

theorem hovering_ok : ToolOk hovering := by constructor <;> simp [hovering, vacantTool, Config.confirmFrames]

theorem live_tools : ToolsOk live := by
  intro i
  cases i
  · exact hovering_ok
  · constructor <;> decide

theorem live_keys : KeysOk live := by constructor <;> simp [live, scan, State.reset, restKeys]

theorem live_quiet : QuietOk live := by intro h; exact absurd h (by decide)

/-! ## Witnesses: the machine, its bytes, the invariants

`witness_<Name>` meets the hypotheses of `Obligations.<Name>`, clause by clause where it has several. -/

theorem witness_StepRunsFrontCommand : scan.pending = [] ∧ scan.pins.power = true ∧ scan.pins.resetN = true := by decide

theorem witness_StartingIgnoresTransactions :
    (Instr.badLength .d 0x10).wf = true ∧ transactionCode (.badLength .d 0x10) = some (.d, 0x10) ∧ (0x10 : Byte) ≠ 0
    ∧ State.reset.control.mode = .starting := by decide

theorem witness_RefusedRequestChangesNothing :
    let t := scan.setPort .s { scan.port .s with
      sent := [], store := .notReady { code := 0x22, result := .badValue, payload := [] } }
    (Instr.setTick .s 3).wf = true ∧ transactionCode (.setTick .s 3) = some (.s, 0x22) ∧ scan.control.mode ≠ .starting
    ∧ exec (.setTick .s 3) scan = .next t
    ∧ (t.port .s).store = .notReady { code := 0x22, result := .badValue, payload := [] } := by
  refine ⟨by decide, by decide, by decide, rfl, rfl⟩

theorem witness_DecodeOfEncode :
    (Instr.readSamples .s 255).wf = true ∧ transactionCode (.readSamples .s 255) = some (.s, 0x10)
    ∧ (Instr.unknownCode .d 1).wf = true ∧ transactionCode (.unknownCode .d 1) = some (.d, 1)
    ∧ (Instr.badLength .d 0x38).wf = true ∧ transactionCode (.badLength .d 0x38) = some (.d, 0x38)
    ∧ (Instr.fetchResponse .s 0).wf = true := by decide

/-- No argument, one argument byte and the 88 of Set Plan; a length off by one either way. -/
theorem witness_TransactionChecks :
    requestLength 0x01 = none ∧ requestLength 0x11 = some 0 ∧ requestLength 0x22 = some 1 ∧ requestLength 0x38 = some 88
    ∧ (87 : Byte).toNat ≠ 88 ∧ (89 : Byte).toNat ≠ 88 ∧ (88 : Byte).toNat = 88
    ∧ (List.replicate 87 (0 : Byte)).length < 88 ∧ (List.replicate 88 (0 : Byte)).length = 88 := by decide

theorem witness_StepKeepsRing : RingOk live ∧ ∃ t, step live = .next t := ⟨live_ring, _, rfl⟩

theorem witness_StepKeepsPorts : PortsOk live ∧ ∃ t, step live = .next t := ⟨live_ports, _, rfl⟩

theorem witness_StepKeepsStore : StoreOk live ∧ ∃ t, step live = .next t := ⟨live_store, _, rfl⟩

theorem witness_StepKeepsMode : ModeOk live ∧ ∃ t, step live = .next t := ⟨live_mode, _, rfl⟩

theorem witness_StepKeepsTasks : ModeOk (planned .s) ∧ TasksOk (planned .s) ∧ ∃ t, step (planned .s) = .next t :=
  ⟨(planned_ok .s).1, (planned_ok .s).2, _, rfl⟩

/-- STARTING, 5 µs into the start-up time, RESET_N falls. -/
theorem witness_StepKeepsStartingQuiet :
    let s : State := { State.reset with pins := { State.reset.pins with startup := some 5 }, pending := [.resetNLow] }
    ModeOk s ∧ QuietOk s ∧ ∃ t, step s = .next t :=
  ⟨by constructor <;> decide, by intro _ p; cases p <;> decide, _, rfl⟩

theorem witness_StepKeepsSync : ModeOk live ∧ SyncOk live ∧ ∃ t, step live = .next t := ⟨live_mode, live_sync, _, rfl⟩

theorem witness_StepKeepsTools : ToolsOk live ∧ ∃ t, step live = .next t := ⟨live_tools, _, rfl⟩

theorem witness_StepKeepsKeys : KeysOk live ∧ ∃ t, step live = .next t := ⟨live_keys, _, rfl⟩

/-! ## Witnesses: reads, ports, tasks, plans -/

/-- One of two records, and both when more are asked for; the D-port has none left. -/
theorem witness_RingReadsMoveOnlyTheirCursor :
    live.control.mode ≠ .starting ∧ min (min (1 : Byte).toNat 16) (live.backlog .s) = 1
    ∧ min (min (255 : Byte).toNat 16) (live.backlog .s) = 2 ∧ min (min (255 : Byte).toNat 16) (live.backlog .d) = 0 := by decide

theorem witness_ReadSamplesReturnsOldestUnread :
    RingOk live ∧ live.control.mode ≠ .starting ∧ (1 : Byte) ≠ 0 := ⟨live_ring, by decide, by decide⟩

theorem witness_ReadsChangeOnlyTheAnswer :
    (planned .s).control.mode ≠ .starting ∧ (6 : Byte).toNat = (6 : Fin 7).val ∧ 7 ≤ (7 : Byte).toNat
    ∧ (planned .s).frame.pendingPlan = some ⟨defaultPlan, .s⟩ ∧ scan.frame.pendingPlan = none ∧ 1 < (2 : Byte).toNat := by decide

theorem witness_ReadAttentionReportsAndClears : scan.control.mode ≠ .starting := by decide

theorem witness_PortItemWrites :
    scan.control.mode ≠ .starting ∧ (0x3FFF : Half).toNat < 16384 ∧ 16384 ≤ (0x4000 : Half).toNat ∧ 2 < (3 : Byte).toNat := by
  decide

/-- The largest area, the smallest one, and one of no width. -/
theorem witness_SetViewWritesOrRefuses :
    let c := scan.settings
    scan.control.mode ≠ .starting
    ∧ min ((0 : Half).toNat : Int) c.xSpan < min ((0xFFFF : Half).toNat : Int) c.xSpan
    ∧ min ((15103 : Half).toNat : Int) c.ySpan < min ((15104 : Half).toNat : Int) c.ySpan
    ∧ ¬ min ((24320 : Half).toNat : Int) c.xSpan < min ((24321 : Half).toNat : Int) c.xSpan := by decide

theorem witness_AttentionLineFollowsItsPort : PortsOk live := live_ports

theorem witness_TaskResultAndAbort :
    ModeOk live ∧ TasksOk live ∧ (live.port .s).slot = .empty ∧ (∀ k, (live.port .s).slot ≠ .running k)
    ∧ (ModeOk (planned .d) ∧ TasksOk (planned .d)) ∧ ((planned .d).port .d).slot = .running .setPlan
    ∧ (ModeOk (holding .s) ∧ TasksOk (holding .s)) ∧ ((holding .s).port .s).slot = .running .holdScan
    ∧ (ModeOk (surveying .s (surveyAt 1 false)) ∧ TasksOk (surveying .s (surveyAt 1 false)))
    ∧ ((surveying .s (surveyAt 1 false)).port .s).slot = .running .coilSurvey
    ∧ (surveying .s (surveyAt 1 false)).control.mode = .survey
    ∧ (ModeOk (reserved .d) ∧ TasksOk (reserved .d)) ∧ ((reserved .d).port .d).slot = .running .coilSurvey
    ∧ (reserved .d).control.mode ≠ .survey :=
  ⟨live_mode, live_tasks, rfl, by intro k; cases k <;> decide, planned_ok .d, rfl, holding_ok .s, rfl, surveying_ok .s _, rfl,
    rfl, reserved_ok .d, rfl, by decide⟩

/-- A completed result is collected. -/
theorem witness_TaskResultAndAbort_completed :
    let s := scan.slotIs .d (.completed .setPlan .superseded)
    ModeOk s ∧ TasksOk s ∧ s.control.mode ≠ .starting ∧ (s.port .d).slot = .completed .setPlan .superseded :=
  ⟨by constructor <;> decide, by constructor <;> (intro p; cases p <;> decide), by decide, rfl⟩

/-- A running task; no slot of use; the other port's plan pending; none pending. -/
theorem witness_SetPlanTakenOrRefused :
    TasksOk (planned .s) ∧ (planned .s).control.mode ≠ .starting ∧ ((planned .s).port .s).slot = .running .setPlan
    ∧ (∀ k, ((planned .s).port .d).slot ≠ .running k)
    ∧ planValid (planned .s).nextFramePeriod defaultPlan = true
    ∧ planValid (planned .s).nextFramePeriod (Vector.replicate 8 (defaultSlot 0 0 0 0 0)) = false
    ∧ (planned .s).frame.pendingPlan = some ⟨defaultPlan, .s⟩
    ∧ TasksOk live ∧ live.frame.pendingPlan = none ∧ ∀ k, (live.port .s).slot ≠ .running k :=
  ⟨(planned_ok .s).2, by decide, rfl, by intro k; cases k <;> decide, by decide, by decide, rfl, live_tasks, rfl,
    by intro k; cases k <;> decide⟩

/-! ## Witnesses: settings -/

theorem witness_PlanValidity : planValid 2470 defaultPlan = true ∧ planValid 2469 defaultPlan = false := by decide

/-- The arguments that make P0's default values. -/
def plainProfile : ProfileArgs :=
  { enabled := 1, tipFreq := 560, ringFreq := 640, nominalZero := 100, phaseSpan := 400, ringHeight := 1280 }

/-- The arguments that make the default Pressure. -/
def plainPressure : PressureArgs :=
  { down := 164, up := 82, x1 := 2048, y1 := 2048, x2 := 4096, y2 := 4096, x3 := 6144, y3 := 6144 }

/-- The arguments that make the default Tracking. -/
def plainTracking : TrackingArgs :=
  { acquire := 400, hold := 200, fadeFrames := 4, missLimit := 8, deadband := 8, tiltLimit := 600 }

theorem witness_SettingsRefused :
    scan.control.mode ≠ .starting ∧ gridOf 15 60 = none ∧ gridOf 96 60 = some (96, 60) ∧ scan.control.mode ≠ .held
    ∧ timingOf 1499 0 1 = none
    ∧ timingOf 2469 0 1 = some ⟨2469, .free, 1⟩ ∧ planFits 2469 scan.frame.activePlan = false
    ∧ (planned .d).frame.pendingPlan = some ⟨defaultPlan, .d⟩ ∧ planFits 2469 defaultPlan = false
    ∧ 4 ≤ (4 : Byte).toNat ∧ profileOf { plainProfile with ringFreq := 560 } = none
    ∧ (profileOf plainProfile).map (·.tipFreq) = some (scan.nextProfile 0).tipFreq
    ∧ (scan.nextProfile 0).enabled = true ∧ (0 : Fin 4).val ≠ (2 : Byte).toNat
    ∧ pressureOf { plainPressure with up := 164 } = none ∧ trackingOf { plainTracking with hold := 401 } = none
    ∧ 7 ≤ (7 : Byte).toNat ∧ 4 ≤ (4 : Byte).toNat := by decide

/-- What the clauses on a taken request ask for, in a state with no pending change and no pending plan. -/
def TakenRequests (s : State) : Prop :=
  timingOf 2470 1 4 = some ⟨2470, .locked, 4⟩ ∧ planFits 2470 s.frame.activePlan = true
    ∧ (∀ q, s.frame.pendingPlan = some q → planFits 2470 q.plan = true)
    ∧ (3 : Byte).toNat = (3 : Fin 4).val ∧ (profileOf { plainProfile with tipFreq := 900 }).map (·.tipFreq) = some 900
    ∧ (∀ j, j ≠ (3 : Fin 4) → (s.nextProfile j).enabled = true → (s.nextProfile j).tipFreq ≠ 900)
    ∧ (pressureOf plainPressure).isSome = true ∧ (trackingOf plainTracking).isSome = true
    ∧ (6 : Byte).toNat = (6 : Fin 7).val ∧ keyComboOf 3 = some .all

theorem witness_SettingsWaitWhileScanning :
    scan.control.mode ≠ .starting ∧ scan.control.mode ≠ .held ∧ TakenRequests scan :=
  ⟨by decide, by decide, by decide, by decide, by rintro _ ⟨⟩, by decide, by decide, by decide, by decide, by decide, by decide,
    by decide⟩

/-- HELD with a tool of profile P0 that a change of P0 marks for release. -/
theorem witness_SettingsApplyAtOnceInHeld :
    let s : State := { held .s with tool0 := hovering }
    s.control.mode = .held ∧ s.waiting = noWaiting ∧ s.tool0.state ≠ .vacant ∧ s.tool0.profile = 0 ∧ TakenRequests s :=
  ⟨rfl, rfl, by decide, by decide, by decide, by decide, by rintro _ ⟨⟩, by decide, by decide, by decide, by decide,
    by decide, by decide, by decide⟩

theorem witness_SetGridInHeld :
    (held .d).control.mode = .held ∧ 16 ≤ (16 : Byte).toNat ∧ (96 : Byte).toNat ≤ 96 ∧ (60 : Byte).toNat ≤ 60 := by decide

/-! ## Witnesses: modes, capture, Port Reset -/

theorem witness_HoldScanByMode :
    (ModeOk (holding .s) ∧ TasksOk (holding .s)) ∧ ((holding .s).port .s).slot = .running .holdScan
    ∧ (∀ k, ((holding .s).port .d).slot ≠ .running k) ∧ (holding .s).control.mode = .holding
    ∧ (ModeOk (held .s) ∧ TasksOk (held .s)) ∧ (held .s).control.mode = .held
    ∧ ModeOk live ∧ TasksOk live ∧ live.control.mode = .scanning ∧ live.control.reservation = none
    ∧ (ModeOk (reserved .s) ∧ TasksOk (reserved .s)) ∧ (reserved .s).control.mode = .scanning
    ∧ (reserved .s).control.reservation ≠ none ∧ (∀ k, ((reserved .s).port .d).slot ≠ .running k)
    ∧ (ModeOk (surveying .s (surveyAt 64 false)) ∧ TasksOk (surveying .s (surveyAt 64 false)))
    ∧ (surveying .s (surveyAt 64 false)).control.mode = .survey
    ∧ ∀ k, ((surveying .s (surveyAt 64 false)).port .d).slot ≠ .running k :=
  ⟨holding_ok .s, rfl, by intro k; cases k <;> decide, rfl, held_ok .s, rfl, live_mode, live_tasks, rfl, rfl, reserved_ok .s, rfl,
    by decide, by intro k; cases k <;> decide, surveying_ok .s _, rfl, by intro k; cases k <;> decide⟩

theorem witness_HeldEndsByResumeOrExpiry :
    ModeOk (held .s) ∧ (held .s).control.mode = .held ∧ (held .s).control.owner = some .s
    ∧ (held .s).control.autoResume = some 0 ∧ (held .s).control.owner ≠ some .d
    ∧ ModeOk live ∧ live.control.mode ≠ .held ∧ live.control.mode ≠ .starting :=
  ⟨(held_ok .s).1, rfl, rfl, rfl, by decide, live_mode, by decide, by decide⟩

theorem witness_CoilSurveyByState :
    scan.control.mode ≠ .starting ∧ ((reserved .s).port .s).slot = .running .coilSurvey
    ∧ (∀ k, (scan.port .s).slot ≠ .running k) ∧ (2 : Byte) ≠ 0 ∧ (2 : Byte) ≠ 1 ∧ ¬ (4 : Byte).toNat < 4 ∧ (3 : Byte).toNat < 4
    ∧ (held .s).control.mode ≠ .scanning ∧ (∀ k, ((held .s).port .s).slot ≠ .running k)
    ∧ (reserved .s).control.reservation ≠ none ∧ (∀ k, ((reserved .s).port .d).slot ≠ .running k)
    ∧ (captured .d).control.mode = .scanning ∧ (captured .d).control.reservation = none ∧ (captured .d).control.capture ≠ none
    ∧ (∀ k, ((captured .d).port .s).slot ≠ .running k)
    ∧ scan.control.mode = .scanning ∧ scan.control.reservation = none ∧ scan.control.capture = none := by
  refine ⟨by decide, by decide, ?_, by decide, by decide, by decide, by decide, by decide, ?_, by decide, ?_, by decide,
    by decide, by decide, ?_, by decide, by decide, by decide⟩ <;> (intro k; cases k <;> decide)

/-- Offsets 155 and 156, the last entry and the one after it. -/
theorem witness_ReadCaptureByState :
    (captured .s).control.mode ≠ .starting ∧ (captured .s).control.capture = some (twoEntries .s)
    ∧ scan.control.capture = none ∧ (155 : Byte).toNat ≤ 155 ∧ ¬ (156 : Byte).toNat ≤ 155 ∧ (twoEntries .s).owner ≠ .d
    ∧ (twoEntries .s).entries.length ≤ (2 : Byte).toNat ∧ (1 : Byte).toNat < (twoEntries .s).entries.length
    ∧ (1 : Byte).toNat ≤ 1 ∧ ¬ (2 : Byte).toNat ≤ 1 := by decide

theorem witness_PortResetReturnsItsPort :
    ModeOk live ∧ live.control.mode ≠ .starting ∧ live.control.owner ≠ some .s
    ∧ ModeOk (holding .s) ∧ (holding .s).control.owner = some .s ∧ (holding .s).control.mode = .holding
    ∧ ModeOk (surveying .d (surveyAt 1 true)) ∧ (surveying .d (surveyAt 1 true)).control.owner = some .d
    ∧ (surveying .d (surveyAt 1 true)).control.mode = .survey
    ∧ (let s : State := { held .s with frame := { (held .s).frame with sync := .locked } }
      ModeOk s ∧ s.control.owner = some .s ∧ s.control.mode = .held ∧ s.frame.sync = .locked) :=
  ⟨live_mode, by decide, by decide, (holding_ok .s).1, rfl, rfl, (surveying_ok .d _).1, rfl, rfl,
    by constructor <;> decide, rfl, rfl, rfl⟩

/-! ## Witnesses: transactions, restarts, keys -/

/-- An answer of a Read Status. -/
def someAnswer : Answer := { code := 0x13, result := .ok, payload := [1, 2] }

/-- A master that clocks out 6 bytes of a 7 byte frame, and one that clocks out all. -/
theorem witness_AnswerStore :
    State.reset.pins.power = true ∧ State.reset.control.mode = .starting ∧ scan.pins.power = true ∧ scan.control.mode ≠ .starting
    ∧ (scan.port .s).store = .none
    ∧ ((scan.at .s fun ps => { ps with store := .notReady someAnswer }).port .s).store = .notReady someAnswer
    ∧ ((scan.at .s fun ps => { ps with store := .ready someAnswer }).port .s).store = .ready someAnswer
    ∧ ¬ 5 + someAnswer.payload.length ≤ 6 ∧ 5 + someAnswer.payload.length ≤ 7
    ∧ ({ State.reset with pins := { State.reset.pins with power := false } } : State).pins.power = false
    ∧ (Instr.setTick .s 3).wf = true ∧ transactionCode (.setTick .s 3) = some (.s, 0x22) ∧ (0x22 : Byte) ≠ 0 := by decide

/-- `s` with power and RESET_N at given levels. -/
def State.levels (s : State) (power resetN : Bool) : State := { s with pins := { s.pins with power, resetN } }

theorem witness_RestartsAndPower :
    scan.control.mode ≠ .starting
    ∧ ({ scan with keys := { scan.keys with hold := .running 1999999 } } : State).keys.hold = .running 1999999
    ∧ (scan.levels false true).pins.resetN = true ∧ (scan.levels false false).pins.resetN = false
    ∧ (scan.levels true false).pins.power = true ∧ (scan.levels false false).pins.power = false := by decide

theorem witness_StartingEndBeginsTheScan :
    let s : State := { State.reset with pins := { State.reset.pins with startup := some 19999 } }
    s.pins.startup = some 19999 ∧ s.control.mode = .starting ∧ s.control.reservation = none ∧ QuietOk s
    ∧ s.frame.pendingPlan = none ∧ s.waiting = noWaiting ∧ s.frame.syncTimer = none :=
  ⟨rfl, rfl, rfl, by intro _ p; cases p <;> decide, rfl, rfl, rfl⟩

/-- K0 and K1 PRESSED with their combination, and the hold timer at `h`. -/
def keyed (h : HoldTimer) : State :=
  { scan with
    settings := { scan.settings with combo := .k01 }
    keys := { scan.keys with key0 := ⟨true, some true⟩, key1 := ⟨true, some false⟩, hold := h } }

/-- The three states of the hold timer; K1's release is accepted at its second RELEASED sample. -/
theorem witness_KeySampleAcceptsLevels :
    KeysOk (keyed .stopped) ∧ KeysOk (keyed (.running 1999999)) ∧ KeysOk (keyed .spent) ∧ (keyed .spent).pins.power = true
    ∧ (keyed .spent).pins.resetN = true ∧ (keyed .spent).control.mode ≠ .starting
    ∧ ((keyed .spent).keys.key 1).previous = some false ∧ false ≠ ((keyed .spent).keys.key 1).accepted
    ∧ ((keyed .spent).keys.key 0).previous ≠ some false := by
  refine ⟨?_, ?_, ?_, by decide, by decide, by decide, by decide, by decide, by decide⟩ <;>
    (constructor <;> first | decide | (rintro _ ⟨⟩ <;> decide))

/-! ## Witnesses: frames and slots -/

/-- `s` with the frame changed by `f`. -/
def State.withFrame (s : State) (f : Frame → Frame) : State := { s with frame := f s.frame }

/-- `scan` with a sync state, LOCKED SyncMode and a sync timer. -/
def synced (sync : SyncState) (timer : Option Nat) : State :=
  { scan with settings := { scan.settings with timing := ⟨2500, .locked, 1⟩ } }.withFrame fun f => { f with sync, syncTimer := timer }

/-- A Timing change waits, to a FramePeriod of 3000 and a SyncMode. -/
def retimed (s : State) (mode : SyncMode) : State :=
  { s with waiting := { s.waiting with timing := some ⟨⟨3000, mode, 1⟩, .s⟩ } }

/-- A frame start whose waiting Timing change has an expiry length of 6000 µs, passed in one and not in the other; one that
applies LOCKED to a FREE part, one that applies FREE to a LOCKED one. -/
theorem witness_TimedFrameEvents :
    scan.frame.phase ≠ .stopped ∧ (held .s).frame.phase = .stopped ∧ scan.control.mode ≠ .starting
    ∧ scan.frame.midDone = false ∧ (synced .locked (some 4999)).frame.syncTimer = some 4999
    ∧ (let s := retimed (synced .locked (some 4999)) .locked
      s.frame.phase ≠ .stopped ∧ (s.settings.applied s.waiting).timing = ⟨3000, .locked, 1⟩ ∧ s.waiting.timing ≠ none
      ∧ s.settings.timing.syncMode = .locked ∧ 2 * 1 * 3000 ≤ 4999 + (2500 - 60) ∧ ¬ 2 * 1 * 3000 ≤ 50 + (2500 - 60))
    ∧ (let s := retimed scan .locked
      s.frame.phase ≠ .stopped ∧ (s.settings.applied s.waiting).timing.syncMode = .locked ∧ s.settings.timing.syncMode = .free)
    ∧ (let s := retimed (synced .locked (some 4999)) .free
      s.frame.phase ≠ .stopped ∧ (s.settings.applied s.waiting).timing.syncMode = .free ∧ s.settings.timing.syncMode = .locked)
    ∧ scan.frame.syncTimer = none
    ∧ (scan.settings.applied scan.waiting).timing.syncMode = scan.settings.timing.syncMode := by decide

/-- FREE; a TAIL, with a change to FREE waiting; a RUNNING frame before its first slot, at the slot's Start before its
SLOT_BEGIN, and after, in SCANNING and in HOLDING; a survey window at its Start. -/
theorem witness_DsyncByModeAndPhase :
    let tail := retimed ((synced .seeking none).withFrame fun f => { f with phase := .tail, next := 8 }) .free
    let early := retimed (synced .locked (some 4999)) .locked
    let due := early.withFrame fun f => { f with timer := 100 }
    let late := early.withFrame fun f => { f with next := 1 }
    let last := (holding .s).withFrame fun f => { f with next := 8, sync := .locked, syncTimer := some 0 }
    let window := (surveying .s (surveyAt 1 false)).withFrame fun f =>
      { f with window := some ⟨.baseline, 0, 0, 0, false, false⟩, timer := 100 }
    (ModeOk live ∧ live.frame.sync = .free ∧ live.waiting.timing = none)
    ∧ (ModeOk tail ∧ tail.control.mode ≠ .held ∧ tail.frame.sync = .seeking ∧ tail.frame.phase = .tail
      ∧ tail.waiting.timing = some ⟨⟨3000, .free, 1⟩, .s⟩)
    ∧ (ModeOk early ∧ early.frame.sync ≠ .free ∧ early.frame.phase = .running ∧ early.frame.slotBegun = false
      ∧ early.waiting.timing = some ⟨⟨3000, .locked, 1⟩, .s⟩)
    ∧ (ModeOk due ∧ due.frame.window = none ∧ due.frame.next = 0 ∧ due.frame.slotBegun = true
      ∧ planValid due.settings.timing.framePeriod due.frame.activePlan = true)
    ∧ (ModeOk late ∧ late.frame.phase = .running ∧ late.frame.slotBegun = true ∧ late.control.mode ≠ .holding)
    ∧ (ModeOk last ∧ last.frame.sync ≠ .free ∧ last.frame.slotBegun = true ∧ last.control.mode = .holding)
    ∧ (window.frame.next = 0 ∧ window.frame.slotBegun = true)
    ∧ TimingOk ⟨3000, .free, 1⟩ ∧ TimingOk ⟨3000, .locked, 1⟩ := by
  refine ⟨⟨live_mode, by decide⟩, ⟨?_, by decide⟩, ⟨?_, by decide⟩, ⟨?_, by decide⟩, ⟨?_, by decide⟩, ⟨?_, by decide⟩,
    by decide, by unfold TimingOk; decide, by unfold TimingOk; decide⟩ <;> (constructor <;> decide)

/-- A survey frame, whose window has no slip. -/
def windowed : State :=
  (surveying .s (surveyAt 1 false)).withFrame fun f => { f with window := some ⟨.baseline, 0, 0, 0, false, false⟩ }

/-- S0 has work, S1 has not: T0 is VACANT; S7 does not excite; a survey window has no slip. -/
theorem witness_SlotBeginRunsWaitsOrEnds :
    let s1 := scan.withFrame fun f => { f with next := 1 }
    let s7 := scan.withFrame fun f => { f with next := 7 }
    let busy : State := { scan with pins := { scan.pins with driveBusy := true } }
    scan.frame.phase = .running ∧ scan.frame.run = .none ∧ scan.frame.next = (0 : Fin 8).val
    ∧ scan.slotJob 0 = some (.sweep 560 0) ∧ scan.pins.driveBusy = false ∧ (scan.frame.slotTimes 0).excite ≠ 0
    ∧ s1.frame.next = (1 : Fin 8).val ∧ s1.slotJob 1 = none
    ∧ s7.frame.next = (7 : Fin 8).val ∧ s7.slotJob 7 = some (.noise .x 0) ∧ (s7.frame.slotTimes 7).excite = 0
    ∧ busy.pins.driveBusy = true ∧ (busy.frame.slotTimes 0).guarded = true ∧ (busy.frame.slotTimes 0).slip ≠ 0
    ∧ windowed.frame.next = (0 : Fin 8).val ∧ windowed.slotJob 0 = some (.survey .baseline 560 0 0 false false)
    ∧ (windowed.frame.slotTimes 0).guarded = true ∧ (windowed.frame.slotTimes 0).slip = 0
    ∧ scan.frame.window = none ∧ windowed.frame.window = some ⟨.baseline, 0, 0, 0, false, false⟩
    ∧ nextSlot defaultPlan 7 = 7 ∧ nextSlot defaultPlan 8 = 8
    ∧ nextSlot (defaultPlan.set 0 (defaultSlot 0 0 0 0 0)) 0 = 1 := by decide

/-- A SEARCH in SWEEP and one in LOCATE, whose hit stands on the last coil; T0's TRACK slot; the NOISE slot; a window. -/
theorem witness_SlotIsNeeded :
    let locating : State := { scan with search := ⟨.locate, 0, 4, some 24320, some 0, none⟩ }
    planValid scan.settings.timing.framePeriod scan.frame.activePlan = true ∧ GridOk scan.settings
    ∧ scan.frame.activePlan[0].function = 1 ∧ scan.slotJob 0 = some (.sweep 560 0) ∧ (scan.searchAtStart 0).phase = .sweep
    ∧ locating.slotJob 0 = some (.locate 560 95 4) ∧ (locating.searchAtStart 0).hitX = some 24320 ∧ (24320 : Int) ≤ scan.settings.xSpan
    ∧ live.frame.activePlan[1].function = 2 ∧ live.slotJob 1 = some (.track .t0 560 40 22) ∧ (live.tool .t0).state ≠ .vacant
    ∧ scan.frame.activePlan[7].function = 5 ∧ scan.slotJob 7 = some (.noise .x 0) ∧ (scan.tool .t0).state = .vacant
    ∧ windowed.frame.activePlan[0].function ≠ 0 ∧ windowed.slotJob 0 = some (.survey .baseline 560 0 0 false false) := by
  refine ⟨by decide, by unfold GridOk; decide, by decide⟩

/-- `scan` with slot `k` under way at 130 µs, the end of S0's slip. -/
def under (run : SlotRun) : State := scan.withFrame fun f => { f with run, timer := 130, next := 1 }

/-- S0's slip window ends at 130. -/
theorem witness_SlotUnderWay :
    let wait := under (.waiting 0 (.sweep 560 0))
    let late := wait.withFrame fun f => { f with timer := 131 }
    let noise := (under (.waiting 7 (.noise .x 0))).withFrame fun f => { f with timer := 2220, next := 8 }
    let open_ : SlotRecord := { defaultSlot 1 0 100 150 150 with guard := 0 }
    let bare := (under (.exciting 0 (.sweep 560 0) 130)).withFrame fun f => { f with activePlan := f.activePlan.set 0 open_ }
    (wait.frame.run = .waiting 0 (.sweep 560 0) ∧ wait.frame.timer ≤ (wait.frame.slotTimes 0).start + (wait.frame.slotTimes 0).slip
      ∧ (wait.frame.slotTimes 0).excite ≠ 0)
    ∧ (noise.frame.timer ≤ (noise.frame.slotTimes 7).start + (noise.frame.slotTimes 7).slip ∧ (noise.frame.slotTimes 7).excite = 0)
    ∧ (late.frame.slotTimes 0).start + (late.frame.slotTimes 0).slip < late.frame.timer
    ∧ ((under (.exciting 0 (.sweep 560 0) 130)).frame.slotTimes 0).guarded = true
    ∧ (bare.frame.slotTimes 0).guarded = false ∧ scan.frame.run = .none := by decide

/-- A slot that listens, for each kind of job; the last bands of the default grid, and the partial one of 16 X coils. -/
theorem witness_ListenEndHandsOnItsObservation :
    (flat 4095 12 1023).wf = true
    ∧ (∀ j : Job, (under (.listening 0 j 130)).frame.run = .listening 0 j 130)
    ∧ 12 * (7 + 1) ≤ scan.settings.xCount ∧ ¬ 7 + 1 < bands scan.settings.xCount
    ∧ 12 * (4 + 1) ≤ scan.settings.yCount ∧ ¬ 4 + 1 < bands scan.settings.yCount
    ∧ 1 + 1 = bands 16 ∧ 16 < 12 * (1 + 1) := by
  refine ⟨by decide, fun _ => rfl, by decide⟩

/-- A frame of T0 with a TRACK observation of strength 2600 at phase `ph`. -/
def strongFrame (ph : Nat) : TrackEnv :=
  { settings := defaultSettings, effHold := 200, count := 5,
    obs := { track := some { cx := 40, cy := 22, xs := [310, 1480, 2950, 2210, 520], ys := [200, 1900, 2600, 1100, 150], phase := ph },
             tilt := none, code := none },
    trackUnneeded := false, entersHeld := false }

/-- T0's frame has a strong observation, and a CODE observation that accepts 10 for the first time. -/
def coded : State :=
  { live with tool0 := { hovering with codeCandidate := some 10 } }.withFrame fun f =>
    { f with obs0 := { (strongFrame 100).obs with code := some { amplitude := 900, symbol := ⟨10, false, false⟩ } } }

/-- A frame end that writes a CODE record and enters a change; one that writes LEAVE; frames 64 and 63 of a survey with an
axis open, and one with both done. -/
theorem witness_FrameEndByMode :
    (ModeOk coded ∧ TasksOk coded ∧ RingOk coded ∧ coded.control.mode ≠ .starting
      ∧ (toolFrameEnd (coded.trackEnv .t0) coded.tool0).draft.map (·.kind) = some .code
      ∧ (toolFrameEnd (coded.trackEnv .t0) coded.tool0).change = some 10
      ∧ (toolFrameEnd (coded.trackEnv .t0) { coded.tool0 with releaseMark := true }).draft.map (·.kind) = some .leave) ∧
    (ModeOk live ∧ TasksOk live ∧ live.control.mode = .scanning)
    ∧ (ModeOk (holding .d) ∧ TasksOk (holding .d) ∧ (holding .d).control.mode = .holding ∧ (holding .d).control.owner = some .d)
    ∧ (∀ v, ModeOk (surveying .s v) ∧ TasksOk (surveying .s v) ∧ (surveying .s v).control.mode = .survey
        ∧ (surveying .s v).control.owner = some .s ∧ (surveying .s v).control.survey = some v)
    ∧ 64 ≤ (surveyAt 64 false).frames ∧ (surveyAt 63 false).frames < 64 ∧ (surveyAt 63 false).xDone = false
    ∧ (surveyAt 64 true).xDone = true ∧ (surveyAt 64 true).yDone = true
    ∧ scan.frame.next < 8 ∧ 8 ≤ (scan.withFrame fun f => { f with next := 8 }).frame.next :=
  ⟨⟨by constructor <;> decide, by constructor <;> (intro p; cases p <;> decide),
      ⟨by decide, by decide, by intro p; cases p <;> decide⟩, by decide⟩, ⟨live_mode, live_tasks, rfl⟩,
    ⟨(holding_ok .d).1, (holding_ok .d).2, rfl, rfl⟩,
    fun v => ⟨(surveying_ok .s v).1, (surveying_ok .s v).2, rfl, rfl, rfl⟩, by decide⟩

/-- The first band of 96 coils, the last of 96, the last of 16, four coils of which exist; and the first and last of 60. -/
theorem witness_SurveyStoresBands :
    let fresh := surveyAt 1 false
    let full : Survey := { fresh with bx := 7, xs := List.replicate 84 1 }
    let small : Survey := { fresh with bx := 1, xs := List.replicate 12 1 }
    let fullY : Survey := { fresh with byy := 4, ys := List.replicate 48 1 }
    (List.replicate 12 4095).length = 12 ∧ (∀ a ∈ List.replicate 12 4095, a ≤ 4095) ∧ (surveyAt 1 true).xDone = true
    ∧ fresh.xs.length = 12 * fresh.bx ∧ 12 * (fresh.bx + 1) < 96
    ∧ full.xs.length = 12 * full.bx ∧ 12 * full.bx < 96 ∧ 96 ≤ 12 * (full.bx + 1)
    ∧ small.xs.length = 12 * small.bx ∧ 12 * small.bx < 16 ∧ 16 ≤ 12 * (small.bx + 1)
    ∧ (surveyAt 1 true).yDone = true ∧ fresh.ys.length = 12 * fresh.byy ∧ 12 * (fresh.byy + 1) < 60
    ∧ fullY.ys.length = 12 * fullY.byy ∧ 12 * fullY.byy < 60 ∧ 60 ≤ 12 * (fullY.byy + 1) := by decide

/-- A peak at EffAcquire and one below it; T0, of the cursor's profile, near a hit and far from another; a locate whose last
Y band has a peak above BestAmp, one that has not, with both records VACANT and with T0 tracked; a cursor on a disabled
profile. -/
theorem witness_SearchSweepFindsAHit :
    live.effAcquire ≤ peakAmp (bandAmps 96 0 [400, 0, 0]) ∧ peakAmp (bandAmps 96 0 [399, 0, 0]) < live.effAcquire
    ∧ bandPosition 3 (bandAmps 96 3 [0, 0, 0, 0, 0, 0, 400, 0, 0, 0, 0, 0]) live.settings.xSpan - (live.tool .t0).raw.x = 502
    ∧ (live.tool .t0).profile = live.search.profile
    ∧ 512 < (live.tool .t0).raw.x - bandPosition 0 (bandAmps 96 0 [400, 0, 0]) live.settings.xSpan
    ∧ 6 + 1 < bands live.settings.xCount ∧ bands live.settings.xCount ≤ 7 + 1
    ∧ (let locating : SearchCursor := ⟨.locate, 0, 4, some 2560, some 400, some 3000⟩
      locating.hitX = some 2560 ∧ (0 : Int) ≤ 2560 ∧ locating.bestAmp = some 400 ∧ live.effAcquire ≤ 400
      ∧ 400 < peakAmp (bandAmps 60 4 [401, 0, 0]) ∧ ¬ 400 < peakAmp (bandAmps 60 4 [400, 0, 0])
      ∧ 3 + 1 < bands live.settings.yCount ∧ bands live.settings.yCount ≤ 4 + 1
      ∧ live.tool0.state ≠ .vacant ∧ live.tool1.state = .vacant ∧ scan.tool0.state = .vacant
      ∧ 512 < live.tool0.raw.x - 2560)
    ∧ scan.frame.window = none ∧ scan.frame.activePlan[0].function = 1 ∧ scan.settings.profiles[2].enabled = false
    ∧ scan.settings.profiles[0].enabled = true := by decide

/-! ## Witnesses: ring, tools, arithmetic -/

theorem witness_AppendAndOverrun :
    RingOk live ∧ live.control.mode ≠ .starting ∧ live.backlog .s + 1 ≤ 512
    ∧ [sampleOf .t0 5 hovering ⟨.motion, false, false, false, false⟩].length = 1 := ⟨live_ring, by decide, by decide, rfl⟩

/-- A ring of 512 records that the S-port has not read. -/
def fullRing : State :=
  { scan with
    ring := (List.range 512).map fun i =>
      { sampleOf .t0 5 hovering ⟨.motion, false, false, false, false⟩ with seq := BitVec.ofNat 16 i }
    nextSeq := 512, portD := { scan.portD with cursor := 512 } }

theorem witness_AppendAndOverrun_full :
    RingOk fullRing ∧ 512 < fullRing.backlog .s + 1 ∧ fullRing.backlog .d + 2 ≤ 512 := by
  have hl : fullRing.ring.length = 512 := by simp [fullRing]
  refine ⟨⟨by rw [hl]; decide, ?_, by intro p; cases p <;> (rw [hl]; decide)⟩, by decide, by decide⟩
  intro n h
  simp only [fullRing, List.getElem_map, List.getElem_range, List.length_map, List.length_range] at h ⊢
  apply BitVec.eq_of_toNat_eq
  change _ = 512
  simp only [BitVec.toNat_add, BitVec.toNat_ofNat]
  omega

/-- A frame of T0 with no observation. -/
def blindFrame (unneeded : Bool) : TrackEnv := { strongFrame 0 with obs := noObs, trackUnneeded := unneeded }

/-- Missing, weak and strong frames at the limits: placement; the eighth miss; the fourth FADE frame; n at 164 and 82;
a tilt observation strong, on an edge and weak; a difference of 8 and of 9 from the reported position; pr at 32 and 33; a
frame that stays in ACQUIRE and one that writes MOTION. -/
theorem witness_ToolTransitions :
    let placed := placedTool 0 10250 5580 5
    let fade : Tool := { hovering with state := .fade, fadeCount := 3, strokeOpen := true }
    let n (p : Nat) := normalised (signedOffset p hovering.phaseZero) defaultSettings.profiles[hovering.profile].phaseSpan
    hovering.state ≠ .vacant ∧ hovering.releaseMark = false ∧ ({ hovering with releaseMark := true } : Tool).releaseMark = true
    ∧ placed.lastObs = (blindFrame true).count ∧ (blindFrame true).trackUnneeded = true ∧ (blindFrame false).obs.track = none
    ∧ hovering.lastObs ≠ (blindFrame true).count
    ∧ defaultTracking.missLimit ≤ ({ hovering with missCount := 7 } : Tool).missCount + 1 ∧ hovering.missCount + 1 < defaultTracking.missLimit
    ∧ strength [310, 1480, 2950, 2210, 520] [200, 1900, 2600, 1100, 150] = 2600
    ∧ defaultTracking.fadeFrames ≤ fade.fadeCount + 1 ∧ 1 < defaultTracking.fadeFrames
    ∧ placed.confirmCount < 2 ∧ 2 ≤ ({ placed with confirmCount := 2 } : Tool).confirmCount
    ∧ defaultSettings.pressure.down ≤ n 108 ∧ n 107 < defaultSettings.pressure.down
    ∧ defaultSettings.pressure.up ≤ n 104 ∧ n 103 < defaultSettings.pressure.up
    ∧ 200 ≤ strength [0, 1086, 1107, 1000, 0] [0, 1001, 1064, 1000, 0] ∧ strength [0, 199, 0, 0, 0] [0, 999, 0, 0, 0] < 200
    ∧ edgePeak [0, 1086, 1107, 1000, 0] = false ∧ edgePeak [1086, 0, 0, 0, 0] = true
    ∧ (hovering.rep = some ⟨10250, 5580⟩ ∧ (10258 - 10250 : Int).natAbs ≤ defaultTracking.deadband
      ∧ ¬ (10259 - 10250 : Int).natAbs ≤ defaultTracking.deadband)
    ∧ (signedOffset 68 hovering.phaseZero).natAbs ≤ 32 ∧ ¬ (signedOffset 67 hovering.phaseZero).natAbs ≤ 32
    ∧ hovering.pos = some ⟨10250, 5580⟩
    ∧ (toolFrameEnd (strongFrame 100) placed).tool.state = .acquire
    ∧ (toolFrameEnd (strongFrame 100) hovering).tool.state = .hover
    ∧ (toolFrameEnd (strongFrame 100) hovering).draft = some ⟨.motion, false, false, false, false⟩ := by decide

/-- A symbol with status code 10. -/
def ten (bit marker : Bool) : Symbol := ⟨10, bit, marker⟩

theorem witness_CodeAndIdentity :
    let held31 : Tool := { hovering with assembly := some (List.replicate 31 true) }
    (ten true true).marker = true ∧ (ten true false).marker = false ∧ hovering.assembly = none
    ∧ held31.assembly = some (List.replicate 31 true) ∧ (List.replicate 31 true).length = 31
    ∧ (∀ i : Fin 32, (0xFFFFFFFF : BitVec 32).getLsbD i.val = (List.replicate 31 true ++ [(ten true false).bit]).getD (31 - i.val) false)
    ∧ held31.identityStatus = .unknown
    ∧ ({ held31 with identityStatus := .partly, identityCandidate := some 0xFFFFFFFF } : Tool).identityCandidate = some 0xFFFFFFFF
    ∧ ({ held31 with identityStatus := .known, identity := some 1 } : Tool).identity ≠ some 0xFFFFFFFF
    ∧ (((10 : BitVec 4).getLsbD 0).toNat + ((10 : BitVec 4).getLsbD 1).toNat + ((10 : BitVec 4).getLsbD 2).toNat
        + ((10 : BitVec 4).getLsbD 3).toNat) % 2 = 0
    ∧ ({ hovering with codeCandidate := some 10 } : Tool).codeCandidate = some (ten true false).code
    ∧ hovering.acceptedCode ≠ some 10 := by decide

/-- An interior peak, an edge, a right neighbour equal to the peak, and an exact half of either sign. -/
theorem witness_PeakAndOffset :
    3 ≤ [1200, 2000, 2000, 900, 100].length ∧ peakIndex [1200, 2000, 2000, 900, 100] = 1 ∧ peakIndex [5, 4, 4] = 0
    ∧ peakIndex [1, 2, 3] + 1 = [1, 2, 3].length ∧ (0 : Int) ≤ 24320
    ∧ 2 * (128 * (2 - 0) - peakOffset [0, 257, 2] * (2 * 257 - 0 - 2)) = -(2 * 257 - 0 - 2)
    ∧ 2 * (128 * (0 - 2) - peakOffset [2, 257, 0] * (2 * 257 - 2 - 0)) = 2 * 257 - 2 - 0 := by decide

/-- The far corner and two cell borders of the default grid. -/
theorem witness_CorrectionMapBlend :
    GridOk defaultSettings ∧ (∀ j : Fin 7, RowOk defaultSettings.map[j]) ∧ defaultSettings.xSpan = 24320
    ∧ defaultSettings.ySpan = 15104 ∧ (3040 : Int) * 8 = (1 : Nat) * defaultSettings.xSpan
    ∧ (0 : Int) * 6 = (0 : Nat) * defaultSettings.ySpan :=
  ⟨by unfold GridOk; decide, by intro j; unfold RowOk NodeOk; fin_cases j <;> decide, by decide, by decide, by decide, by decide⟩

theorem witness_PressureCurve :
    pressureValid defaultPressure = true ∧ 8191 ≤ 8191 ∧ 2047 < defaultPressure.x1 ∧ defaultPressure.x1 ≤ 2048
    ∧ 4095 < defaultPressure.x2 ∧ 6143 < defaultPressure.x3 ∧ defaultPressure.x3 ≤ 8191 := by decide

/-- Phases and spans at the ends of their ranges. -/
theorem witness_OffsetAndNormalisation :
    1023 ≤ 1023 ∧ (0 : Int) ≤ (64 : Nat) ∧ (64 : Nat) ≤ 64 ∧ 1023 ≤ 1023 ∧ 511 < 512 ∧ (511 : Int) ≤ 511 := by decide

/-- A lean of nothing, of less than the whole, and of the whole ring height. -/
theorem witness_LeanAngle :
    256 ≤ 256 ∧ 4096 ≤ 4096 ∧ (leanSine 0 256).natAbs = 0 ∧ (leanSine 255 256).natAbs < 256 ∧ (256 : Int).natAbs ≥ 256
    ∧ (leanSine (-256) 256).natAbs = 256 ∧ arcsine[255 / 8]?.isSome = true ∧ arcsine[255 / 8 + 1]?.isSome = true := by decide

/-- Every orientation of an inset area; the far corner of an area at least as large as the panel. -/
theorem witness_ViewMapsPositions :
    GridOk defaultSettings ∧ (∀ o, ViewOk defaultSettings (inset o)) ∧ (inset .deg0).kind = .display
    ∧ ViewOk defaultSettings (defaultView 24320 15104) ∧ (defaultView 24320 15104).kind = .grid
    ∧ ((inset .deg0).width : Int) ≤ (inset .deg0).x1 - (inset .deg0).x0 + 1
    ∧ ((inset .deg0).height : Int) ≤ (inset .deg0).y1 - (inset .deg0).y0 + 1 :=
  ⟨by unfold GridOk; decide, by intro o; cases o <;> (unfold ViewOk; decide), rfl, by unfold ViewOk; decide, rfl, by decide, by decide⟩

/-- Below and beyond the clamp of 2048 on either side, and beyond the grid. -/
theorem witness_PredictedPosition :
    GridOk defaultSettings ∧ vacantTool.state = .vacant ∧ (placedTool 0 0 0 5).state = .acquire
    ∧ ({ hovering with state := .fade } : Tool).rep = some ⟨10250, 5580⟩ ∧ hovering.state = .hover
    ∧ hovering.rep = some ⟨10250, 5580⟩ ∧ (0 : Int) ≤ 5580 ∧ 10250 ≤ defaultSettings.xSpan ∧ 5580 ≤ defaultSettings.ySpan
    ∧ ((44 : Int) * (5000 : Nat)).tdiv (2500 : Nat) = 88 ∧ 2048 < ((300 : Int) * (20000 : Nat)).tdiv (2500 : Nat)
    ∧ ((-300 : Int) * (20000 : Nat)).tdiv (2500 : Nat) < -2048 ∧ (2000 : Int) - 2048 < 0
    ∧ defaultSettings.xSpan < 24000 + 2048 := by
  refine ⟨by unfold GridOk; decide, by decide⟩

/-! ## Single steps and one frame end -/

/-- 4.6 and 5.6: frame 521 of T0 as its frame end reads it. The ring window peaks at (10922, 5375). -/
def frame521 : TrackEnv :=
  { settings := { mapped 3 2 ⟨12, -6⟩ ⟨20, -6⟩ ⟨4, -6⟩ ⟨-8, -6⟩ with
      pressure := { down := 164, up := 82, x1 := 2048, y1 := 1024, x2 := 4096, y2 := 3072, x3 := 6144, y3 := 5632 } }
    effHold := 200, count := 521,
    obs :=
      { track := some { cx := 40, cy := 22, xs := [310, 1480, 2950, 2210, 520], ys := [200, 1900, 2600, 1100, 150], phase := 260 }
        tilt := some { cx := 43, cy := 21, xs := [0, 1086, 1107, 1000, 0], ys := [0, 1001, 1064, 1000, 0] }
        code := none }
    trackUnneeded := false, entersHeld := false }

/-- The record of T0 before frame 521. -/
def tool520 : Tool :=
  { hovering with raw := ⟨10240, 5585⟩, pos := some ⟨10250, 5579⟩, rep := some ⟨10250, 5579⟩, lastObs := 520 }

/-- 4.6, 5.6: the STROKE_BEGIN record of frame 521. -/
theorem test_frame_521 :
    let r := toolFrameEnd frame521 tool520
    r.draft = some ⟨.strokeBegin, false, false, false, false⟩ ∧ r.tool.rep = some ⟨10294, 5579⟩ ∧ r.tool.vel.x = 44
    ∧ r.tool.pressure = 2252 ∧ r.tool.tilt = ⟨300, -94⟩ ∧ r.tool.stroke = 4 ∧ r.tool.ring = some ⟨10922, 5375⟩
    ∧ predicted frame521.settings 5000 r.tool = some ⟨10382, 5579⟩ := by decide

/-- The next state of a command. -/
def after (c : Instr) (s : State) : Option State :=
  match exec c s with
  | .next t => some t
  | .fault _ => none
  | .refused _ => none

/-- 13.3: the part before the worked Read Attention. -/
def frame907 : State :=
  { scan with epoch := 43, keys := { scan.keys with key2 := ⟨true, some true⟩ } }.at .s
    fun ps => { ps with events := 0x0002, list0 := [0, 10] }

/-- 13.3: the payload of the worked Read Attention, and what it leaves. -/
theorem test_read_attention :
    after (.readAttention .s) frame907
      = some (frame907.at .s fun ps => { ps with
          events := 0
          list0 := [10]
          sent := []
          store := .notReady
            { code := 0x20, result := .ok, payload := [0x00, 0x22, 0x28, 0x07, 0, 0x90, 0, 0x04, 1, 0, 0, 0x00, 0x2B] } }) := by
  decide

/-- 13.3: the next one takes code 10. -/
theorem test_next_head : headByte [10] = [0x8A] ∧ headByte [] = [0] := by decide

/-- R9, R171: the first frame after STARTING. -/
theorem test_starting_end :
    ∃ t, after .startingEnd State.reset = some t
    ∧ t.frame.count = 1 ∧ t.frame.phase = .running ∧ t.control.mode = .scanning ∧ t.portS.events = 0x2000 :=
  ⟨_, rfl, by decide⟩

/-- R27: with DRIVE_BUSY high S0 waits at its Start, 100 µs into the frame. -/
theorem test_slot_waits :
    ∃ t, after .slotBegin { scan with pins := { scan.pins with driveBusy := true } } = some t
    ∧ t.frame.run = .waiting 0 (.sweep 560 0) ∧ t.frame.timer = 100 :=
  ⟨_, rfl, by decide⟩

/-- R172: a key is accepted at the second of two equal samples. -/
theorem test_key_accepted :
    ∃ t, after (.keySample true false false false) { scan with keys := { scan.keys with key0 := ⟨false, some true⟩ } } = some t
    ∧ t.keys.key0.accepted = true ∧ Event.keyChange.isIn t.portD.events = true :=
  ⟨_, rfl, by decide⟩

/-- R124, R178: Fetch Response in STARTING; the bytes clocked past the frame read 0. -/
theorem test_fetch_starting :
    ∃ t, after (.fetchResponse .d 7) State.reset = some t
    ∧ t.portD.sent = [1, 0, 0, 0, 0, 0, 0] :=
  ⟨_, rfl, by decide⟩

/-- R121: a request transaction drives 0, whatever was sent before. -/
theorem test_request_drives_zero :
    ∃ t, after (.setWatermark .s 4) (scan.at .s fun ps => { ps with sent := [2, 0] }) = some t ∧ t.driven .s 0 = 0 :=
  ⟨_, rfl, by decide⟩

/-- R15: at S0's Start, 100 µs, the slot has begun though its SLOT_BEGIN is not taken, and a DSYNC truncates the frame. -/
theorem test_dsync_at_start :
    ∃ t, after .dsync ((synced .locked (some 50)).withFrame fun f => { f with timer := 100 }) = some t ∧ t.frame.count = 6 :=
  ⟨_, rfl, by decide⟩

/-- R107: the watermark is clamped. -/
theorem test_watermark_clamped :
    ∃ t, after (.setWatermark .s 0) scan = some t
    ∧ t.portS.watermark = 1 :=
  ⟨_, rfl, by decide⟩

/-- The table gives no row bits, so no word spells a command. -/
theorem test_no_word : decodeTableWord 16 0x10 = none := by decide

end Sys2Proof.Machine
end

section
/-! SUPPORT. What a command reaches, and what every invariant of the step needs of it. -/

namespace Sys2Proof.Machine

/-- What a request keeps: it holds of the state in which only zeros are driven, and of the request's effect (R123). -/
theorem request_keeps {P : State → Prop} {p : Port} {s t : State} {f : State → State} (h : request p s f = .next t)
    (hzero : P (s.drivesZero p)) (heffect : P (f s)) : P t := by
  rcases request_next h with rfl | rfl
  · exact hzero
  · exact heffect

/-- What a step keeps: 1 µs of the timebase, the command at the front of the queue, and the queue itself keep it. -/
theorem step_keeps {P : State → Prop} (helapse : ∀ s, P s → P (s.elapse 1))
    (hqueue : ∀ s rest, P s → P { s with pending := rest }) (hexec : ∀ c s t, P s → exec c s = .next t → P t)
    {s t : State} (hs : P s) (h : step s = .next t) : P t := by
  rcases step_next h with ⟨-, rfl⟩ | ⟨c, rest, -, hc⟩
  · exact helapse s hs
  · exact hexec c _ t (hqueue s rest hs) hc

/-- The port whose items alone a command reaches, its view not among them: the reads, the port's own values, and the
transactions that are no taken request. -/
def ownPort : Instr → Option Port
  | .readSamples p _ | .skipToNewest p | .readLatest p | .readStatus p | .readAttention p | .setAttentionMask p _
  | .setTick p _ | .ackTick p | .setWatermark p _ | .readTaskResult p | .readPlan p _ | .readMapRow p _ | .readSettings p
  | .fetchResponse p _ | .unknownCode p _ | .badLength p _ | .answerReady p => some p
  | _ => none

/-- `t` is `s` but for what port `p` holds, and its view is the old one. -/
def KeepsView (p : Port) (s t : State) : Prop := OnlyPort p s t ∧ (t.port p).view = (s.port p).view

theorem keepsView_setPort {p : Port} {s : State} {ps : PortState} (h : ps.view = (s.port p).view) :
    KeepsView p s (s.setPort p ps) := by
  simp [KeepsView, OnlyPort, h]

theorem keepsView_drivesZero (p : Port) (s : State) : KeepsView p s (s.drivesZero p) := keepsView_setPort rfl

theorem keepsView_answer {p : Port} {s : State} (code : Byte) (r : ResultCode) (pl : List Byte) :
    KeepsView p s (s.answer p code r pl) := keepsView_setPort rfl

theorem keepsView_setPort_answer {p : Port} {s : State} {ps : PortState} (code : Byte) (r : ResultCode) (pl : List Byte)
    (h : ps.view = (s.port p).view) : KeepsView p s ((s.setPort p ps).answer p code r pl) := by
  simp [KeepsView, OnlyPort, State.answer, h]

/-- A command with a port of its own reaches that port alone and keeps its view. -/
theorem exec_ownPort {c : Instr} {p : Port} {s t : State} (hp : ownPort c = some p) (h : exec c s = .next t) :
    KeepsView p s t := by
  cases c <;> simp only [ownPort, Option.some.injEq, reduceCtorEq] at hp <;> subst hp
  case fetchResponse =>
    simp only [exec, execFetchResponse] at h
    split at h <;> cases h
    · exact keepsView_setPort rfl
    · exact keepsView_drivesZero _ _
  case answerReady =>
    cases h
    exact keepsView_setPort rfl
  all_goals
    simp only [exec, execReadSamples, execSkipToNewest, execReadLatest, execReadStatus, execReadAttention,
      execSetAttentionMask, execSetTick, execAckTick, execSetWatermark, execReadTaskResult, execReadPlan, execReadMapRow,
      execReadSettings, execUnknownCode, execBadLength] at h
    refine request_keeps h (keepsView_drivesZero _ _) ?_
  case skipToNewest | readAttention | ackTick | setWatermark | readTaskResult => exact keepsView_setPort_answer _ _ _ rfl
  case readLatest | readStatus | readSettings | unknownCode | badLength => exact keepsView_answer _ _ _
  case readSamples | setAttentionMask | setTick =>
    split
    · exact keepsView_answer _ _ _
    · exact keepsView_setPort_answer _ _ _ rfl
  case readMapRow => split <;> exact keepsView_answer _ _ _
  case readPlan =>
    split
    · exact keepsView_answer _ _ _
    · split
      · split <;> exact keepsView_answer _ _ _
      · exact keepsView_answer _ _ _

/-! ## What each event can do

One inversion per event: it leaves the state, or has its one effect (log entry 3). -/

theorem execScheduledFrameStart_next {s t : State} (h : execScheduledFrameStart s = .next t) :
    t = s ∨ s.frame.phase ≠ .stopped ∧ t = (s.untilFrame s.settings.timing.framePeriod).frameStart := by
  unfold execScheduledFrameStart at h
  split at h <;> cases h
  · exact .inl rfl
  all_goals exact .inr ⟨by simp_all, rfl⟩

theorem execMidPoint_next {s t : State} (h : execMidPoint s = .next t) :
    t = s ∨ ∃ u : State, u = s.untilFrame (s.settings.timing.framePeriod / 2)
      ∧ t = State.tickBoth { u with frame := { u.frame with midDone := true } } .midFrame := by
  unfold execMidPoint at h
  split at h
  · cases h
    exact .inl rfl
  all_goals
    split at h <;> cases h
    · exact .inl rfl
    · exact .inr ⟨_, rfl, rfl⟩

theorem execDsync_next {s t : State} (h : execDsync s = .next t) :
    t = s ∨ s.control.mode ≠ .starting ∧ s.control.mode ≠ .held ∧ t = s.dsyncPulse := by
  unfold execDsync at h
  split at h <;> cases h
  · exact .inl rfl
  · exact .inl rfl
  all_goals exact .inr ⟨by simp_all, by simp_all, rfl⟩

theorem execSyncTimerExpiry_next {s t : State} (h : execSyncTimerExpiry s = .next t) :
    t = s ∨ ∃ d, s.frame.syncTimer = some d ∧ t = (s.until d s.settings.timing.expiry).syncExpire := by
  unfold execSyncTimerExpiry at h
  split at h <;> cases h
  · next d hd => exact .inr ⟨d, hd, rfl⟩
  · exact .inl rfl

theorem execSlotBegin_next {s t : State} (h : execSlotBegin s = .next t) :
    t = s ∨ ∃ k, s.frame.phase = .running ∧ t = s.beginSlot k := by
  unfold execSlotBegin at h
  split at h
  · next hrun =>
    split at h <;> cases h
    · exact .inr ⟨_, hrun.1, rfl⟩
    · exact .inl rfl
  · cases h; exact .inl rfl

/-- The state with the DRIVE_BUSY level at `level`. -/
def State.withBusy (s : State) (level : Bool) : State := { s with pins := { s.pins with driveBusy := level } }

theorem execDriveBusyFall_next {s t : State} (h : execDriveBusyFall s = .next t) :
    t = s.withBusy false ∨ ∃ k j, s.frame.run = .waiting k j ∧ t = (s.withBusy false).beginRun k j := by
  unfold execDriveBusyFall at h
  dsimp only at h
  split at h <;> cases h
  · next k j hrun =>
    split
    · exact .inr ⟨k, j, hrun, rfl⟩
    · exact .inl rfl
  all_goals exact .inl rfl

theorem execDriveBusyRise_next {s t : State} (h : execDriveBusyRise s = .next t) :
    t = s.withBusy true ∨ ∃ k, s.frame.run ≠ .none ∧ t = (s.withBusy true).endSlot k .cut := by
  unfold execDriveBusyRise at h
  dsimp only at h
  split at h <;> cases h
  case h_1 | h_2 =>
    split
    · exact .inr ⟨_, by simp_all, rfl⟩
    · exact .inl rfl
  all_goals exact .inl rfl

theorem execSlipExpiry_next {s t : State} (h : execSlipExpiry s = .next t) :
    t = s ∨ ∃ k d, s.frame.run ≠ .none ∧ t = (s.untilFrame d).endSlot k .skipped := by
  unfold execSlipExpiry at h
  split at h <;> cases h
  · exact .inr ⟨_, _, by simp_all, rfl⟩
  all_goals exact .inl rfl

theorem execExcitationEnd_next {s t : State} (h : execExcitationEnd s = .next t) :
    t = s ∨ ∃ (u : State) (run : SlotRun) (d : Nat), s.frame.run ≠ .none ∧ u = s.untilFrame d
      ∧ t = { u with frame := { u.frame with run } } := by
  unfold execExcitationEnd at h
  split at h <;> cases h
  · exact .inr ⟨_, _, _, by simp_all, rfl, rfl⟩
  all_goals exact .inl rfl

theorem execListenEnd_next {r : Reading} {s t : State} (h : execListenEnd r s = .next t) :
    t = s ∨ ∃ k j d, s.frame.run ≠ .none ∧ t = ((s.untilFrame d).handOn j r).endSlot k .done := by
  unfold execListenEnd at h
  split at h <;> cases h
  · exact .inr ⟨_, _, _, by simp_all, rfl⟩
  all_goals exact .inl rfl

theorem execAutoResumeExpiry_next {s t : State} (h : execAutoResumeExpiry s = .next t) :
    t = s ∨ ∃ d n, s.control.mode = .held ∧ t = (s.until d n).endHeld := by
  unfold execAutoResumeExpiry at h
  split at h
  · split at h <;> cases h
    · next hheld => exact .inr ⟨_, _, hheld, rfl⟩
    · exact .inl rfl
  · cases h; exact .inl rfl

/-- The state in which STARTING ends, before Restarted is raised and the first frame starts (R171). -/
def State.scanBegun (s : State) : State :=
  { s with pins := { s.pins with startup := none }, control := { s.control with mode := .scanning, owner := none } }

theorem execStartingEnd_next {s t : State} (h : execStartingEnd s = .next t) :
    t = s ∨ ∃ d, s.pins.startup = some d
      ∧ t = ((s.until d Config.startingTime).scanBegun.raiseBoth .restarted).frameStart := by
  unfold execStartingEnd at h
  split at h <;> cases h
  · next d hd => exact .inr ⟨d, hd, rfl⟩
  · exact .inl rfl

theorem execKeySample_next {a b c d : Bool} {s t : State} (h : execKeySample a b c d s = .next t) :
    t = s ∨ ∃ (u : State) (keys : Keys) (changed : Bool), u = s.until s.keys.pace Config.keySampleTime
      ∧ t = State.raiseBothIf { u with keys } changed .keyChange := by
  unfold execKeySample at h
  split at h <;> cases h
  · exact .inr ⟨_, _, _, rfl, rfl⟩
  · exact .inl rfl

theorem execKeyRestartHoldExpiry_next {s t : State} (h : execKeyRestartHoldExpiry s = .next t) :
    t = s ∨ ∃ (u : State) (d : Nat), u = s.until d Config.keyRestartTime
      ∧ t = State.restartWarm { u with keys := { u.keys with hold := .spent } } := by
  unfold execKeyRestartHoldExpiry at h
  split at h <;> cases h
  · exact .inr ⟨_, _, rfl, rfl⟩
  all_goals exact .inl rfl

/-- The power and RESET_N commands restart the part or hold it at the restart, RESET_N's rise without power but for its
level (R169). -/
theorem exec_power_next {c : Instr} {s t : State} (hc : c = .powerOn ∨ c = .resetNLow ∨ c = .resetNRise ∨ c = .powerFail)
    (h : exec c s = .next t) :
    t = { s with pins := { s.pins with resetN := true } } ∨ ∃ u : State, t = u.restartPowerOn ∨ t = u.heldAtRestart := by
  rcases hc with rfl | rfl | rfl | rfl <;> cases h
  · exact .inr ⟨{ s with pins := { s.pins with power := true } }, by split <;> simp⟩
  · exact .inr ⟨_, .inr rfl⟩
  · split
    · exact .inr ⟨_, .inl rfl⟩
    · exact .inl rfl
  · exact .inr ⟨_, .inr rfl⟩

/-! ## What a settings request can do (R139, R140) -/

/-- The port of a settings request but Set Grid. -/
def settingsPort : Instr → Option Port
  | .setTiming p .. | .setProfile p .. | .setPressure p _ | .setTracking p _ | .setMapRow p .. | .setKeyCombo p _ => some p
  | _ => none

/-- A settings request but Set Grid is refused with an answer, or its change is taken. -/
theorem exec_settingsPort_keeps {P : State → Prop} {c : Instr} {p : Port} {s t : State} (hp : settingsPort c = some p)
    (h : exec c s = .next t) (hzero : P (s.drivesZero p)) (hanswer : ∀ code r, P (s.answer p code r []))
    (hchange : ∀ code w fields, P (s.changeSetting p code w fields)) : P t := by
  cases c <;> simp only [settingsPort, Option.some.injEq, reduceCtorEq] at hp <;> subst hp
  all_goals
    simp only [exec, execSetTiming, execSetProfile, execSetPressure, execSetTracking, execSetMapRow, execSetKeyCombo] at h
    refine request_keeps h hzero ?_
  case setTiming =>
    split
    · exact hanswer ..
    · split
      · exact hchange ..
      · exact hanswer ..
  case setProfile =>
    split
    · split
      · exact hanswer ..
      · exact hchange ..
    · exact hanswer ..
  all_goals
    split
    · exact hanswer ..
    · exact hchange ..

end Sys2Proof.Machine
end


section
/-! SUPPORT. The Settings Store's invariant through every command. -/

namespace Sys2Proof.Machine

/-- Only zeros are driven, or an answer enters the store of port `p`: nothing that the Settings Store reads. -/
theorem StoreOk.answer {s : State} (hs : StoreOk s) (p : Port) (code : Byte) (r : ResultCode) (pl : List Byte) :
    StoreOk (s.answer p code r pl) := hs.same (by simp [StoreSame])

theorem StoreOk.drivesZero {s : State} (hs : StoreOk s) (p : Port) : StoreOk (s.drivesZero p) :=
  hs.same (by simp [StoreSame])

theorem StoreOk.keepsView {s t : State} {p : Port} (hs : StoreOk s) (h : KeepsView p s t) : StoreOk t := by
  obtain ⟨hport, hview⟩ := h
  rw [hport]
  refine hs.same ⟨by simp, by simp, by simp, by simp, fun q => ?_⟩
  rw [port_setPort]
  split
  · next hq => rw [hq, hview]
  · rfl

/-- A Pending Plan that is valid for the next FramePeriod (R19, R22). -/
theorem StoreOk.pendPlan {s : State} (hs : StoreOk s) {plan : Plan} (p : Port)
    (h : planValid s.nextFramePeriod plan = true) :
    StoreOk { s with frame := { s.frame with pendingPlan := some { plan, issuer := p } } } := by
  obtain ⟨grid, timing, profiles, pressure, tracking, map, tips, nextTips, active, activeNext, -, views⟩ := hs
  exact ⟨grid, timing, profiles, pressure, tracking, map, tips, nextTips, active, activeNext,
    by rintro _ ⟨⟩; exact h, fun q => by simpa using views q⟩

theorem StoreOk.execSetPlan {p : Port} {plan : Plan} {s t : State} (hs : StoreOk s)
    (h : execSetPlan p plan s = .next t) : StoreOk t := by
  refine request_keeps h (hs.drivesZero p) ?_
  split
  · exact hs.answer ..
  · split
    · next hv =>
      have hsup : StoreOk s.supersede := hs.same (by simp [StoreSame])
      have hnext : s.supersede.nextFramePeriod = s.nextFramePeriod := by simp [State.nextFramePeriod]
      exact (hsup.pendPlan p (hnext ▸ hv)).same (by simp [StoreSame])
    · exact hs.answer ..

/-! ## The settings requests (R139, R140, R142) -/

theorem StoreOk.execSetTiming {p : Port} {fp : Half} {mode ratio : Byte} {s t : State} (hs : StoreOk s)
    (h : execSetTiming p fp mode ratio s = .next t) : StoreOk t := by
  refine request_keeps h (hs.drivesZero p) ?_
  split
  · exact hs.answer ..
  · next item hitem =>
    split
    · next hfit =>
      refine StoreOk.changeSetting ?_ ..
      exact hs.waiting (.inr ⟨_, rfl, timingOf_ok hitem, hfit⟩) (fun _ => .inl rfl) hs.nextTips (.inl rfl) (.inl rfl)
        (fun _ => .inl rfl)
    · exact hs.answer ..

theorem StoreOk.execSetProfile {p : Port} {index : Byte} {a : ProfileArgs} {s t : State} (hs : StoreOk s)
    (h : execSetProfile p index a s = .next t) : StoreOk t := by
  refine request_keeps h (hs.drivesZero p) ?_
  split
  · next i f _ hf =>
    split
    · exact hs.answer ..
    · next hclash =>
      refine StoreOk.changeSetting ?_ ..
      refine hs.waiting (.inl rfl) (fun k => ?_) (tips_set hs hclash) (.inl rfl) (.inl rfl) (fun _ => .inl rfl)
      by_cases hk : i = k
      · subst hk; exact .inr ⟨⟨f, p⟩, by simp, profileOf_ok hf⟩
      · have hk' : i.val ≠ k.val := fun e => hk (Fin.ext e)
        exact .inl (by simp [hk'])
  · exact hs.answer ..

theorem StoreOk.execSetMapRow {p : Port} {row : Byte} {nodes : Vector NodeArgs 9} {s t : State} (hs : StoreOk s)
    (h : execSetMapRow p row nodes s = .next t) : StoreOk t := by
  refine request_keeps h (hs.drivesZero p) ?_
  split
  · exact hs.answer ..
  · next j _ =>
    refine StoreOk.changeSetting ?_ ..
    refine hs.waiting (.inl rfl) (fun _ => .inl rfl) hs.nextTips (.inl rfl) (.inl rfl) (fun k => ?_)
    by_cases hk : j = k
    · subst hk; exact .inr ⟨⟨mapRowOf nodes, p⟩, by simp, mapRowOf_ok _⟩
    · have hk' : j.val ≠ k.val := fun e => hk (Fin.ext e)
      exact .inl (by simp [hk'])

theorem pressureOf_ok {a : PressureArgs} {k : Pressure} (h : pressureOf a = some k) : pressureValid k = true := by
  unfold pressureOf at h
  dsimp only at h
  split at h
  · next hv => cases h; exact hv
  · cases h

theorem StoreOk.execSetPressure {p : Port} {a : PressureArgs} {s t : State} (hs : StoreOk s)
    (h : execSetPressure p a s = .next t) : StoreOk t := by
  refine request_keeps h (hs.drivesZero p) ?_
  split
  · exact hs.answer ..
  · next k hk =>
    refine StoreOk.changeSetting ?_ ..
    exact hs.waiting (.inl rfl) (fun _ => .inl rfl) hs.nextTips (.inr ⟨_, rfl, pressureOf_ok hk⟩) (.inl rfl)
      (fun _ => .inl rfl)

theorem StoreOk.execSetTracking {p : Port} {a : TrackingArgs} {s t : State} (hs : StoreOk s)
    (h : execSetTracking p a s = .next t) : StoreOk t := by
  refine request_keeps h (hs.drivesZero p) ?_
  split
  · exact hs.answer ..
  · next k hk =>
    refine StoreOk.changeSetting ?_ ..
    exact hs.waiting (.inl rfl) (fun _ => .inl rfl) hs.nextTips (.inl rfl) (.inr ⟨_, rfl, trackingOf_ok hk⟩)
      (fun _ => .inl rfl)

theorem StoreOk.execSetKeyCombo {p : Port} {combo : Byte} {s t : State} (hs : StoreOk s)
    (h : execSetKeyCombo p combo s = .next t) : StoreOk t := by
  refine request_keeps h (hs.drivesZero p) ?_
  split
  · exact hs.answer ..
  · refine StoreOk.changeSetting ?_ ..
    exact hs.waiting (.inl rfl) (fun _ => .inl rfl) hs.nextTips (.inl rfl) (.inl rfl) (fun _ => .inl rfl)

theorem StoreOk.execSetGrid {p : Port} {x y : Byte} {s t : State} (hs : StoreOk s)
    (h : execSetGrid p x y s = .next t) : StoreOk t := by
  refine request_keeps h (hs.drivesZero p) ?_
  split
  · exact hs.answer ..
  · next g hg =>
    split
    · exact (hs.applyGrid hg).answer ..
    · exact hs.answer ..

theorem StoreOk.execSetView {p : Port} {a : ViewArgs} {s t : State} (hs : StoreOk s)
    (h : execSetView p a s = .next t) : StoreOk t := by
  refine request_keeps h (hs.drivesZero p) ?_
  split
  · exact hs.answer ..
  · next v hv => exact (hs.setView (viewOf_ok hs.grid hv)).answer ..

/-! ## The requests on tasks, modes and the port -/

theorem StoreOk.execAbortTask {p : Port} {s t : State} (hs : StoreOk s) (h : execAbortTask p s = .next t) : StoreOk t := by
  refine request_keeps h (hs.drivesZero p) ?_
  split
  · next k _ =>
    refine hs.same ⟨by simp, by simp, by simp, ?_, by simp⟩
    cases k <;> simp only [answer_frame, completeTask_frame, State.undoTask, dropPlanOf_pendingPlan]
    · split <;> simp
    · split <;> simp
    · split <;> simp
  all_goals exact hs.answer ..

theorem StoreOk.execHoldScan {p : Port} {delay : Byte} {s t : State} (hs : StoreOk s)
    (h : execHoldScan p delay s = .next t) : StoreOk t := by
  refine request_keeps h (hs.drivesZero p) ?_
  split
  · exact hs.answer ..
  · split <;> exact hs.same (by simp [StoreSame])

theorem StoreOk.execResumeScan {p : Port} {s t : State} (hs : StoreOk s) (h : execResumeScan p s = .next t) :
    StoreOk t := by
  refine request_keeps h (hs.drivesZero p) ?_
  split
  · split
    · exact hs.endHeld.answer ..
    · exact hs.answer ..
  · exact hs.answer ..

theorem StoreOk.execCoilSurvey {p : Port} {kind profile : Byte} {s t : State} (hs : StoreOk s)
    (h : execCoilSurvey p kind profile s = .next t) : StoreOk t := by
  refine request_keeps h (hs.drivesZero p) ?_
  repeat' split
  all_goals exact hs.same (by simp [StoreSame])

theorem StoreOk.execReadCapture {p : Port} {offset count unlock : Byte} {s t : State} (hs : StoreOk s)
    (h : execReadCapture p offset count unlock s = .next t) : StoreOk t := by
  refine request_keeps h (hs.drivesZero p) ?_
  repeat' split
  all_goals exact hs.same (by simp [StoreSame])

theorem StoreOk.resetMode {s : State} (hs : StoreOk s) (p : Port) : StoreOk (s.resetMode p) := by
  have hleft : StoreOk (s.backToScanning.raise .modeChanged p.other) := hs.same (by simp [StoreSame])
  unfold State.resetMode
  split
  · dsimp only
    split
    · exact hleft.resume
    · exact hleft
    · exact hleft
    · exact hs
    · exact hs
  · exact hs

theorem StoreOk.execPortReset {p : Port} {s t : State} (hs : StoreOk s) (h : execPortReset p s = .next t) :
    StoreOk t := by
  refine request_keeps h (hs.drivesZero p) ?_
  have hview := hs.setView (p := p) (viewOk_default hs.grid)
  have hport : StoreOk (s.setPort p ((s.port p).resetTo s.settings s.nextSeq)) := by
    refine hview.same ⟨by simp, by simp, by simp, by simp, fun q => ?_⟩
    rw [port_setPort, port_setPort]
    split <;> rfl
  refine (StoreOk.resetMode (hport.same ?_) p).answer ..
  refine ⟨by simp, by simp, by simp, ?_, by simp⟩
  simp only [resetCapture_frame, dropReservationOf_frame, dropPlanOf_pendingPlan]
  split <;> simp

/-! ## Restarts (R170) -/

theorem StoreOk.restartWarm {s : State} (hs : StoreOk s) : StoreOk s.restartWarm :=
  hs.warm rfl rfl rfl rfl (by intro q; cases q <;> rfl)

theorem StoreOk.restartCold (s : State) : StoreOk s.restartCold :=
  storeOk_default rfl rfl rfl rfl (by intro q; cases q <;> rfl)

theorem StoreOk.restartPowerOn (s : State) : StoreOk s.restartPowerOn :=
  storeOk_default rfl rfl rfl rfl (by intro q; cases q <;> rfl)

theorem StoreOk.heldAtRestart (s : State) : StoreOk s.heldAtRestart :=
  storeOk_default rfl rfl rfl rfl (by intro q; cases q <;> rfl)

/-! ## Every command -/

/-- Every command keeps the settings, the pending changes, the plans and the views valid. -/
theorem StoreOk.exec {c : Instr} {s t : State} (hs : StoreOk s) (h : exec c s = .next t) : StoreOk t := by
  cases hp : ownPort c with
  | some p => exact hs.keepsView (exec_ownPort hp h)
  | none =>
    cases c <;> simp only [ownPort, reduceCtorEq] at hp
    case setView => exact hs.execSetView h
    case abortTask => exact hs.execAbortTask h
    case setPlan => exact hs.execSetPlan h
    case setGrid => exact hs.execSetGrid h
    case setTiming => exact hs.execSetTiming h
    case setProfile => exact hs.execSetProfile h
    case setPressure => exact hs.execSetPressure h
    case setTracking => exact hs.execSetTracking h
    case setMapRow => exact hs.execSetMapRow h
    case setKeyCombo => exact hs.execSetKeyCombo h
    case holdScan => exact hs.execHoldScan h
    case resumeScan => exact hs.execResumeScan h
    case coilSurvey => exact hs.execCoilSurvey h
    case readCapture => exact hs.execReadCapture h
    case portReset => exact hs.execPortReset h
    case coldRestart p =>
      exact request_keeps (show execColdRestart p s = .next t from h) (hs.drivesZero p)
        ((StoreOk.restartCold s).drivesZero p)
    case warmRestart p =>
      exact request_keeps (show execWarmRestart p s = .next t from h) (hs.drivesZero p)
        (hs.restartWarm.drivesZero p)
    case scheduledFrameStart =>
      rcases execScheduledFrameStart_next h with rfl | ⟨-, rfl⟩
      · exact hs
      · exact (hs.elapse _).frameStart
    case midPoint =>
      rcases execMidPoint_next h with rfl | ⟨u, rfl, rfl⟩
      · exact hs
      · exact hs.same (by simp [StoreSame])
    case dsync =>
      rcases execDsync_next h with rfl | ⟨-, -, rfl⟩
      · exact hs
      · exact hs.dsyncPulse
    case syncTimerExpiry =>
      rcases execSyncTimerExpiry_next h with rfl | ⟨d, -, rfl⟩
      · exact hs
      · exact hs.same (by simp [StoreSame])
    case slotBegin =>
      rcases execSlotBegin_next h with rfl | ⟨k, -, rfl⟩
      · exact hs
      · exact hs.beginSlot k
    case driveBusyFall =>
      rcases execDriveBusyFall_next h with rfl | ⟨k, j, -, rfl⟩
      all_goals exact hs.same (by simp [StoreSame, State.withBusy])
    case driveBusyRise =>
      have hrise : StoreOk (s.withBusy true) := hs.same (by simp [StoreSame, State.withBusy])
      rcases execDriveBusyRise_next h with rfl | ⟨k, -, rfl⟩
      · exact hrise
      · exact hrise.endSlot k .cut
    case slipExpiry =>
      rcases execSlipExpiry_next h with rfl | ⟨k, d, -, rfl⟩
      · exact hs
      · exact (hs.elapse _).endSlot k .skipped
    case excitationEnd =>
      rcases execExcitationEnd_next h with rfl | ⟨u, run, d, -, rfl, rfl⟩
      · exact hs
      · exact hs.same (by simp [StoreSame])
    case listenEnd =>
      rcases execListenEnd_next h with rfl | ⟨k, j, d, -, rfl⟩
      · exact hs
      · exact StoreOk.endSlot (hs.same (by simp [StoreSame])) k .done
    case autoResumeExpiry =>
      rcases execAutoResumeExpiry_next h with rfl | ⟨d, n, -, rfl⟩
      · exact hs
      · exact (hs.elapse _).endHeld
    case startingEnd =>
      rcases execStartingEnd_next h with rfl | ⟨d, -, rfl⟩
      · exact hs
      · exact StoreOk.frameStart (hs.same (by simp [StoreSame, State.scanBegun]))
    case keySample =>
      rcases execKeySample_next h with rfl | ⟨u, keys, changed, rfl, rfl⟩
      · exact hs
      · exact hs.same (by simp [StoreSame])
    case keyRestartHoldExpiry =>
      rcases execKeyRestartHoldExpiry_next h with rfl | ⟨u, d, rfl, rfl⟩
      · exact hs
      · exact StoreOk.restartWarm (hs.same (by simp [StoreSame]))
    case powerOn | resetNLow | resetNRise | powerFail =>
      rcases exec_power_next (by simp) h with rfl | ⟨u, rfl | rfl⟩
      · exact hs.same (by simp [StoreSame])
      · exact StoreOk.restartPowerOn u
      · exact StoreOk.heldAtRestart u

/-- Settles O11: each command keeps `StoreOk`, case by case, and so does the passing of time. -/
theorem stepKeepsStore : Obligations.StepKeepsStore := fun _ _ =>
  step_keeps (fun _ hs => hs.elapse 1) (fun _ _ hs => hs.same (by simp [StoreSame])) (fun _ _ _ => StoreOk.exec)

end Sys2Proof.Machine
end


section
/-! SUPPORT. Mode Control's invariant through every command. -/

namespace Sys2Proof.Machine

theorem ModeOk.answer {s : State} (hs : ModeOk s) (p : Port) (code : Byte) (r : ResultCode) (pl : List Byte) :
    ModeOk (s.answer p code r pl) := hs.same (by simp +contextual [ModeSame])

theorem ModeOk.drivesZero {s : State} (hs : ModeOk s) (p : Port) : ModeOk (s.drivesZero p) :=
  hs.same (by simp +contextual [ModeSame])

theorem ModeOk.elapse {s : State} (hs : ModeOk s) (d : Nat) : ModeOk (s.elapse d) :=
  hs.same (by simp +contextual [ModeSame])

theorem ModeOk.onlyPort {s t : State} {p : Port} (hs : ModeOk s) (h : OnlyPort p s t) : ModeOk t := by
  rw [h]
  exact hs.same (by simp +contextual [ModeSame])

/-- While no frame stands still the mode is neither STARTING nor HELD, and only the frames of a restart or of HELD do. -/
theorem ModeOk.phase_ne_stopped {s : State} (hs : ModeOk s) (h : s.control.mode.still = false) :
    s.frame.phase ≠ .stopped := by
  simpa [h] using hs.stopped

theorem ModeOk.startup_eq_none {s : State} (hs : ModeOk s) (h : s.control.mode ≠ .starting) : s.pins.startup = none := by
  have hstart := hs.startup
  cases hu : s.pins.startup <;> simp_all

theorem ModeOk.autoResume_eq_none {s : State} (hs : ModeOk s) (h : s.control.mode ≠ .held) :
    s.control.autoResume = none := by
  have hauto := hs.autoResume
  cases hu : s.control.autoResume <;> simp_all

/-- An owned mode waits for no survey (R149, R154). -/
theorem ModeOk.reservation_eq_none {s : State} (hs : ModeOk s) (h : s.control.mode ≠ .scanning) :
    s.control.reservation = none := by
  have hres := hs.reservation
  cases hu : s.control.reservation <;> simp_all

/-- A hold or a survey that ends while frames run leaves SCANNING (R148, R153, R157). -/
theorem ModeOk.backToScanning {s : State} (hs : ModeOk s) (h : s.control.mode.still = false) :
    ModeOk s.backToScanning := by
  have hphase := hs.phase_ne_stopped h
  have hstart := hs.startup_eq_none (by rintro e; simp [e, Mode.still] at h)
  obtain ⟨-, -, -, -, hrun, -, -, -, hcapture⟩ := hs
  constructor <;> simp_all [Mode.owned, Mode.still]

/-- A hold ends with the scan resumed (R151, R152). -/
theorem ModeOk.endHeld {s : State} (hs : ModeOk s) (h : s.control.mode = .held) : ModeOk s.endHeld := by
  have hstart := hs.startup_eq_none (by simp [h])
  have hres := hs.reservation_eq_none (by simp [h])
  unfold State.endHeld
  exact ModeOk.resume (by simp) (by simp) (by simp) (by simp [hstart]) (by simp) (by simp [hres])

/-- A hold begins from a mode with frames running and no survey waiting (R149). -/
theorem ModeOk.beginHold {s : State} (hs : ModeOk s) (p : Port) (delay : Byte) (h : s.control.mode.still = false)
    (hres : s.control.reservation = none) : ModeOk (s.beginHold p delay) := by
  have hphase := hs.phase_ne_stopped h
  have hstart := hs.startup_eq_none (by rintro e; simp [e, Mode.still] at h)
  have hauto := hs.autoResume_eq_none (by rintro e; simp [e, Mode.still] at h)
  have hrun := hs.run
  constructor <;> simp_all [Mode.owned, Mode.still]

theorem ModeOk.takeSetting {s : State} (hs : ModeOk s) (w : Waiting) : ModeOk (s.takeSetting w) := by
  by_cases hm : s.control.mode = .held
  · exact hs.same (by simp +contextual [ModeSame, takeSetting_in_held _ _ hm])
  · rw [takeSetting_waits _ _ hm]
    exact hs.same (by simp +contextual [ModeSame, hm])

theorem ModeOk.changeSetting {s : State} (hs : ModeOk s) (p : Port) (code : Byte) (w : Waiting) (fields : List Byte) :
    ModeOk (s.changeSetting p code w fields) := (hs.takeSetting w).answer ..

/-! ## The requests on tasks, modes and the port -/

theorem ModeOk.dropReservationOf {s : State} (hs : ModeOk s) (p : Port) : ModeOk (s.dropReservationOf p) := by
  refine hs.same ?_
  simp only [ModeSame, dropReservationOf_control_reservation]
  split <;> simp +contextual

theorem undoTask_setPlan (s : State) (p : Port) : s.undoTask p .setPlan = s.dropPlanOf p := rfl
theorem undoTask_holdScan (s : State) (p : Port) :
    s.undoTask p .holdScan = if s.ownsMode p .holding then s.backToScanning.raiseBoth .modeChanged else s := rfl
theorem undoTask_coilSurvey (s : State) (p : Port) :
    s.undoTask p .coilSurvey
      = if s.ownsMode p .survey then s.backToScanning.raiseBoth .modeChanged else s.dropReservationOf p := rfl

theorem ModeOk.undoTask {s : State} (hs : ModeOk s) (p : Port) (k : TaskKind) : ModeOk (s.undoTask p k) := by
  have hback : ∀ m : Mode, m.still = false → s.ownsMode p m = true → ModeOk (s.backToScanning.raiseBoth .modeChanged) := by
    intro m hm hown
    have hmode : s.control.mode = m := by simp [State.ownsMode] at hown; exact hown.1
    exact (hs.backToScanning (hmode ▸ hm)).same (by simp +contextual [ModeSame])
  cases k with
  | setPlan => exact hs.same (by simp +contextual [ModeSame, undoTask_setPlan])
  | holdScan =>
    rw [undoTask_holdScan]
    split
    · next hown => exact hback .holding rfl hown
    · exact hs
  | coilSurvey =>
    rw [undoTask_coilSurvey]
    split
    · next hown => exact hback .survey rfl hown
    · exact hs.dropReservationOf p

theorem ModeOk.execAbortTask {p : Port} {s t : State} (hs : ModeOk s) (h : execAbortTask p s = .next t) : ModeOk t := by
  refine request_keeps h (hs.drivesZero p) ?_
  split
  · next k _ => exact (hs.undoTask p k).same (by simp +contextual [ModeSame])
  all_goals exact hs.answer ..

theorem ModeOk.execSetPlan {p : Port} {plan : Plan} {s t : State} (hs : ModeOk s) (h : execSetPlan p plan s = .next t) :
    ModeOk t := by
  refine request_keeps h (hs.drivesZero p) ?_
  split
  · exact hs.answer ..
  · split <;> exact hs.same (by simp +contextual [ModeSame])

theorem ModeOk.execSetGrid {p : Port} {x y : Byte} {s t : State} (hs : ModeOk s) (h : execSetGrid p x y s = .next t) :
    ModeOk t := by
  refine request_keeps h (hs.drivesZero p) ?_
  repeat' split
  all_goals exact hs.same (by simp +contextual [ModeSame])

theorem ModeOk.execHoldScan {p : Port} {delay : Byte} {s t : State} (hs : ModeOk s)
    (h : execHoldScan p delay s = .next t) : ModeOk t := by
  refine request_keeps h (hs.drivesZero p) ?_
  split
  · exact hs.answer ..
  · split
    · next hm =>
      have hcancel : ModeOk s.cancelWaiting := hs.same (by simp +contextual [ModeSame])
      exact (hcancel.beginHold p delay (by simp [hm, Mode.still]) (by simp)).answer ..
    · next hm =>
      have hcancel : ModeOk s.cancelActive := hs.same (by simp +contextual [ModeSame])
      refine (hcancel.beginHold p delay (by simp [hm, Mode.still]) ?_).answer ..
      simpa using hs.reservation_eq_none (by simp [hm])
    all_goals exact hs.answer ..

theorem ModeOk.execResumeScan {p : Port} {s t : State} (hs : ModeOk s) (h : execResumeScan p s = .next t) : ModeOk t := by
  refine request_keeps h (hs.drivesZero p) ?_
  split
  · next hm =>
    split
    · exact (hs.endHeld hm).answer ..
    · exact hs.answer ..
  · exact hs.answer ..

theorem ModeOk.execCoilSurvey {p : Port} {kind profile : Byte} {s t : State} (hs : ModeOk s)
    (h : execCoilSurvey p kind profile s = .next t) : ModeOk t := by
  refine request_keeps h (hs.drivesZero p) ?_
  repeat' split
  case h_2.isFalse.isFalse.isFalse hm _ hcap =>
    obtain ⟨howner, hsurvey, -, hstopped, hrun, hstart, hauto, hheld, -⟩ := hs
    constructor <;> simp_all
  all_goals exact hs.answer ..

theorem ModeOk.execReadCapture {p : Port} {offset count unlock : Byte} {s t : State} (hs : ModeOk s)
    (h : execReadCapture p offset count unlock s = .next t) : ModeOk t := by
  refine request_keeps h (hs.drivesZero p) ?_
  repeat' split
  all_goals exact hs.same (by simp +contextual [ModeSame, State.emptyCapture])

theorem ModeOk.resetMode {s : State} (hs : ModeOk s) (p : Port) : ModeOk (s.resetMode p) := by
  unfold State.resetMode
  split
  · dsimp only
    split
    · next hm =>
      exact ModeOk.resume (by simp) (by simp) (by simp) (by simp [hs.startup_eq_none, hm]) (by simp)
        (by simp [hs.reservation_eq_none, hm])
    · next hm => exact (hs.backToScanning (by simp [hm, Mode.still])).same (by simp +contextual [ModeSame])
    · next hm => exact (hs.backToScanning (by simp [hm, Mode.still])).same (by simp +contextual [ModeSame])
    all_goals exact hs
  · exact hs

theorem ModeOk.execPortReset {p : Port} {s t : State} (hs : ModeOk s) (h : execPortReset p s = .next t) : ModeOk t := by
  refine request_keeps h (hs.drivesZero p) ?_
  have hport : ModeOk ((s.setPort p ((s.port p).resetTo s.settings s.nextSeq)).dropPlanOf p) :=
    hs.same (by simp +contextual [ModeSame])
  refine (ModeOk.resetMode ((hport.dropReservationOf p).same ?_) p).answer ..
  simp +contextual [ModeSame]

/-! ## Every command -/

/-- A slot under way runs in a frame that is RUNNING. -/
theorem ModeOk.running {s : State} (hs : ModeOk s) (h : s.frame.run ≠ .none) : s.frame.phase ≠ .stopped := by
  simp [hs.run h]

/-- Every command keeps Mode Control in agreement with the frame timer, the survey and the other timers. -/
theorem ModeOk.exec {c : Instr} {s t : State} (hs : ModeOk s) (h : exec c s = .next t) : ModeOk t := by
  cases hp : ownPort c with
  | some p => exact hs.onlyPort (exec_ownPort hp h).1
  | none =>
    cases hq : settingsPort c with
    | some p =>
      exact exec_settingsPort_keeps hq h (hs.drivesZero p) (fun _ _ => hs.answer ..) (fun _ _ _ => hs.changeSetting ..)
    | none =>
    cases c <;> simp only [ownPort, settingsPort, reduceCtorEq] at hp hq
    case setView =>
      refine request_keeps (show execSetView _ _ s = .next t from h) (hs.drivesZero _) ?_
      split <;> exact hs.same (by simp +contextual [ModeSame])
    case abortTask => exact hs.execAbortTask h
    case setPlan => exact hs.execSetPlan h
    case setGrid => exact hs.execSetGrid h
    case holdScan => exact hs.execHoldScan h
    case resumeScan => exact hs.execResumeScan h
    case coilSurvey => exact hs.execCoilSurvey h
    case readCapture => exact hs.execReadCapture h
    case portReset => exact hs.execPortReset h
    case coldRestart p =>
      have hcold : ModeOk s.restartCold := ModeOk.restart rfl rfl rfl
      exact request_keeps (show execColdRestart p s = .next t from h) (hs.drivesZero p) (hcold.drivesZero p)
    case warmRestart p =>
      have hwarm : ModeOk s.restartWarm := ModeOk.restart rfl rfl rfl
      exact request_keeps (show execWarmRestart p s = .next t from h) (hs.drivesZero p) (hwarm.drivesZero p)
    case scheduledFrameStart =>
      rcases execScheduledFrameStart_next h with rfl | ⟨hphase, rfl⟩
      · exact hs
      · exact (hs.elapse _).frameStart' hphase
    case midPoint =>
      rcases execMidPoint_next h with rfl | ⟨u, rfl, rfl⟩
      · exact hs
      · exact hs.same (by simp +contextual [ModeSame])
    case dsync =>
      rcases execDsync_next h with rfl | ⟨-, -, rfl⟩
      · exact hs
      · exact hs.dsyncPulse
    case syncTimerExpiry =>
      rcases execSyncTimerExpiry_next h with rfl | ⟨d, -, rfl⟩
      · exact hs
      · exact hs.same (by simp +contextual [ModeSame])
    case slotBegin =>
      rcases execSlotBegin_next h with rfl | ⟨k, hphase, rfl⟩
      · exact hs
      · exact hs.beginSlot k hphase
    case driveBusyFall =>
      have hlow : ModeOk (s.withBusy false) := hs.same (by simp +contextual [ModeSame, State.withBusy])
      rcases execDriveBusyFall_next h with rfl | ⟨k, j, hrun, rfl⟩
      · exact hlow
      · have hphase : (s.withBusy false).frame.phase = .running := hs.run (by simp [hrun])
        exact hlow.same (by simp +contextual [ModeSame, hphase])
    case driveBusyRise =>
      have hhigh : ModeOk (s.withBusy true) := hs.same (by simp +contextual [ModeSame, State.withBusy])
      rcases execDriveBusyRise_next h with rfl | ⟨k, hrun, rfl⟩
      · exact hhigh
      · exact hhigh.endSlot k .cut (hs.running hrun)
    case slipExpiry =>
      rcases execSlipExpiry_next h with rfl | ⟨k, d, hrun, rfl⟩
      · exact hs
      · exact (hs.elapse _).endSlot k .skipped (hs.running hrun)
    case excitationEnd =>
      rcases execExcitationEnd_next h with rfl | ⟨u, run, d, hrun, rfl, rfl⟩
      · exact hs
      · exact hs.same (by simp +contextual [ModeSame, hrun])
    case listenEnd r =>
      rcases execListenEnd_next h with rfl | ⟨k, j, d, hrun, rfl⟩
      · exact hs
      · have hhanded : ModeOk ((s.untilFrame d).handOn j r) := hs.same (by simp +contextual [ModeSame])
        exact hhanded.endSlot k .done (by simpa using hs.running hrun)
    case autoResumeExpiry =>
      rcases execAutoResumeExpiry_next h with rfl | ⟨d, n, hheld, rfl⟩
      · exact hs
      · exact (hs.elapse _).endHeld hheld
    case startingEnd =>
      rcases execStartingEnd_next h with rfl | ⟨d, hd, rfl⟩
      · exact hs
      · have hmode := hs.startup (by simp [hd])
        have hsurvey := hs.survey
        have hres := hs.reservation_eq_none (by simp [hmode])
        have hauto := hs.autoResume_eq_none (by simp [hmode])
        simp only [hmode] at hsurvey
        apply ModeOk.frameStart <;> simp_all [State.scanBegun, Mode.owned, State.until, State.elapse]
    case keySample =>
      rcases execKeySample_next h with rfl | ⟨u, keys, changed, rfl, rfl⟩
      · exact hs
      · exact hs.same (by simp +contextual [ModeSame])
    case keyRestartHoldExpiry =>
      rcases execKeyRestartHoldExpiry_next h with rfl | ⟨u, d, rfl, rfl⟩
      · exact hs
      · exact ModeOk.restart rfl rfl rfl
    case powerOn | resetNLow | resetNRise | powerFail =>
      rcases exec_power_next (by simp) h with rfl | ⟨u, rfl | rfl⟩
      · exact hs.same (by simp +contextual [ModeSame])
      all_goals exact ModeOk.restart rfl rfl rfl

/-- Settles O12: each command keeps `ModeOk`, case by case, and so does the passing of time. -/
theorem stepKeepsMode : Obligations.StepKeepsMode := fun _ _ =>
  step_keeps (fun _ hs => hs.elapse 1) (fun _ _ hs => hs.same (by simp +contextual [ModeSame]))
    (fun _ _ _ => ModeOk.exec)

end Sys2Proof.Machine
end


section
/-! SUPPORT. The sync state's invariant through every command. -/

namespace Sys2Proof.Machine

theorem SyncOk.answer {s : State} (hs : SyncOk s) (p : Port) (code : Byte) (r : ResultCode) (pl : List Byte) :
    SyncOk (s.answer p code r pl) := hs.same (by simp [SyncSame])

theorem SyncOk.drivesZero {s : State} (hs : SyncOk s) (p : Port) : SyncOk (s.drivesZero p) :=
  hs.same (by simp [SyncSame])

theorem SyncOk.onlyPort {s t : State} {p : Port} (hs : SyncOk s) (h : OnlyPort p s t) : SyncOk t := by
  rw [h]
  exact hs.same (by simp [SyncSame])

theorem SyncOk.undoTask {s : State} (hs : SyncOk s) (p : Port) (k : TaskKind) : SyncOk (s.undoTask p k) := by
  refine hs.same ⟨by simp, by simp, by simp, by simp, ?_⟩
  cases k
  · simp [undoTask_setPlan]
  · rw [undoTask_holdScan]
    split <;> simp
  · rw [undoTask_coilSurvey]
    split <;> simp

theorem SyncOk.resetMode {s : State} (hs : SyncOk s) (p : Port) : SyncOk (s.resetMode p) := by
  have hleft : SyncOk (s.backToScanning.raise .modeChanged p.other) := hs.same (by simp [SyncSame])
  unfold State.resetMode
  split
  · dsimp only
    split
    · exact hleft.resume
    · exact hleft
    · exact hleft
    · exact hs
    · exact hs
  · exact hs

/-- What a restart leaves: a sync state that its SyncMode gives, the sync timer stopped (R13, R170). -/
theorem SyncOk.restart {s : State} (hsync : s.frame.sync = syncAtRestart s.settings.timing.syncMode)
    (htimer : s.frame.syncTimer = none) (hphase : s.frame.phase = .stopped) : SyncOk s := by
  constructor <;> rw [hsync]
  · cases s.settings.timing.syncMode <;> simp [syncAtRestart]
  · simp [htimer, hphase]
  · cases s.settings.timing.syncMode <;> simp [syncAtRestart]

/-! ## The requests that reach more than their port -/

theorem SyncOk.execSetGrid {p : Port} {x y : Byte} {s t : State} (hs : SyncOk s) (h : execSetGrid p x y s = .next t) :
    SyncOk t := by
  refine request_keeps h (hs.drivesZero p) ?_
  split
  · exact hs.answer ..
  · split
    · refine hs.same ⟨by simp, by simp, by simp, ?_, by simp⟩
      simp [State.applyGrid]
    · exact hs.answer ..

theorem SyncOk.execHoldScan {p : Port} {delay : Byte} {s t : State} (hs : SyncOk s)
    (h : execHoldScan p delay s = .next t) : SyncOk t := by
  refine request_keeps h (hs.drivesZero p) ?_
  split
  · exact hs.answer ..
  · split <;> exact hs.same (by simp [SyncSame])

theorem SyncOk.execResumeScan {p : Port} {s t : State} (hs : SyncOk s) (h : execResumeScan p s = .next t) : SyncOk t := by
  refine request_keeps h (hs.drivesZero p) ?_
  repeat' split
  · exact hs.endHeld.answer ..
  all_goals exact hs.answer ..

theorem SyncOk.execPortReset {p : Port} {s t : State} (hs : SyncOk s) (h : execPortReset p s = .next t) : SyncOk t := by
  refine request_keeps h (hs.drivesZero p) ?_
  exact (SyncOk.resetMode (hs.same (by simp [SyncSame])) p).answer ..

/-! ## Every command -/

/-- Every command keeps the sync state in agreement with SyncMode, and the sync timer running exactly in LOCKED. -/
theorem SyncOk.exec {c : Instr} {s t : State} (hm : ModeOk s) (hs : SyncOk s) (h : exec c s = .next t) : SyncOk t := by
  cases hp : ownPort c with
  | some p => exact hs.onlyPort (exec_ownPort hp h).1
  | none =>
    cases hq : settingsPort c with
    | some p =>
      exact exec_settingsPort_keeps hq h (hs.drivesZero p) (fun _ _ => hs.answer ..) (fun _ _ _ => hs.changeSetting ..)
    | none =>
    cases c <;> simp only [ownPort, settingsPort, reduceCtorEq] at hp hq
    case setView =>
      refine request_keeps (show execSetView _ _ s = .next t from h) (hs.drivesZero _) ?_
      split <;> exact hs.same (by simp [SyncSame])
    case abortTask p =>
      refine request_keeps (show execAbortTask p s = .next t from h) (hs.drivesZero _) ?_
      split
      · next k _ => exact (hs.undoTask p k).same (by simp [SyncSame])
      all_goals exact hs.answer ..
    case setPlan p plan =>
      refine request_keeps (show execSetPlan p plan s = .next t from h) (hs.drivesZero _) ?_
      repeat' split
      all_goals exact hs.same (by simp [SyncSame])
    case setGrid => exact hs.execSetGrid h
    case holdScan => exact hs.execHoldScan h
    case resumeScan => exact hs.execResumeScan h
    case coilSurvey p kind profile =>
      refine request_keeps (show execCoilSurvey p kind profile s = .next t from h) (hs.drivesZero _) ?_
      repeat' split
      all_goals exact hs.same (by simp [SyncSame])
    case readCapture p offset count unlock =>
      refine request_keeps (show execReadCapture p offset count unlock s = .next t from h) (hs.drivesZero _) ?_
      repeat' split
      all_goals exact hs.same (by simp [SyncSame])
    case portReset => exact hs.execPortReset h
    case coldRestart p =>
      have hcold : SyncOk s.restartCold := SyncOk.restart rfl rfl rfl
      exact request_keeps (show execColdRestart p s = .next t from h) (hs.drivesZero p) (hcold.drivesZero p)
    case warmRestart p =>
      have hwarm : SyncOk s.restartWarm := SyncOk.restart rfl rfl rfl
      exact request_keeps (show execWarmRestart p s = .next t from h) (hs.drivesZero p) (hwarm.drivesZero p)
    case scheduledFrameStart =>
      rcases execScheduledFrameStart_next h with rfl | ⟨hphase, rfl⟩
      · exact hs
      · exact (hs.elapse _).frameStart (fun hstop => absurd hstop hphase)
    case midPoint =>
      rcases execMidPoint_next h with rfl | ⟨u, rfl, rfl⟩
      · exact hs
      · exact hs.same (by simp [SyncSame])
    case dsync =>
      rcases execDsync_next h with rfl | ⟨hstarting, -, rfl⟩
      · exact hs
      · exact hs.dsyncPulse hstarting
    case syncTimerExpiry =>
      rcases execSyncTimerExpiry_next h with rfl | ⟨d, hd, rfl⟩
      · exact hs
      · exact (hs.elapse _).syncExpire (by simp [hd])
    case slotBegin =>
      rcases execSlotBegin_next h with rfl | ⟨k, hphase, rfl⟩
      · exact hs
      · exact hs.beginSlot k hphase
    case driveBusyFall =>
      rcases execDriveBusyFall_next h with rfl | ⟨k, j, hrun, rfl⟩
      all_goals exact hs.same (by simp [SyncSame, State.withBusy])
    case driveBusyRise =>
      have hhigh : SyncOk (s.withBusy true) := hs.same (by simp [SyncSame, State.withBusy])
      rcases execDriveBusyRise_next h with rfl | ⟨k, hrun, rfl⟩
      · exact hhigh
      · exact hhigh.endSlot k .cut (hm.running hrun)
    case slipExpiry =>
      rcases execSlipExpiry_next h with rfl | ⟨k, d, hrun, rfl⟩
      · exact hs
      · exact (hs.elapse _).endSlot k .skipped (hm.running hrun)
    case excitationEnd =>
      rcases execExcitationEnd_next h with rfl | ⟨u, run, d, hrun, rfl, rfl⟩
      · exact hs
      · exact hs.same (by simp [SyncSame])
    case listenEnd r =>
      rcases execListenEnd_next h with rfl | ⟨k, j, d, hrun, rfl⟩
      · exact hs
      · have hhanded : SyncOk ((s.untilFrame d).handOn j r) := hs.same (by simp [SyncSame])
        exact hhanded.endSlot k .done (by simpa using hm.running hrun)
    case autoResumeExpiry =>
      rcases execAutoResumeExpiry_next h with rfl | ⟨d, n, hheld, rfl⟩
      · exact hs
      · exact (hs.elapse _).endHeld
    case startingEnd =>
      rcases execStartingEnd_next h with rfl | ⟨d, hd, rfl⟩
      · exact hs
      · have hbegun : SyncOk ((s.until d Config.startingTime).scanBegun.raiseBoth .restarted) :=
          hs.same (by simp [SyncSame, State.scanBegun])
        refine hbegun.frameStart (fun _ => ?_)
        simpa [State.scanBegun] using hs.starting (hm.startup (by simp [hd]))
    case keySample =>
      rcases execKeySample_next h with rfl | ⟨u, keys, changed, rfl, rfl⟩
      · exact hs
      · exact hs.same (by simp [SyncSame])
    case keyRestartHoldExpiry =>
      rcases execKeyRestartHoldExpiry_next h with rfl | ⟨u, d, rfl, rfl⟩
      · exact hs
      · exact SyncOk.restart rfl rfl rfl
    case powerOn | resetNLow | resetNRise | powerFail =>
      rcases exec_power_next (by simp) h with rfl | ⟨u, rfl | rfl⟩
      · exact hs.same (by simp [SyncSame])
      all_goals exact SyncOk.restart rfl rfl rfl

/-- Settles O15: with `ModeOk` before it, each command keeps `SyncOk`, case by case, and so does the passing of time. -/
theorem stepKeepsSync : Obligations.StepKeepsSync := by
  intro s t hm hs h
  rcases step_next h with ⟨-, rfl⟩ | ⟨c, rest, -, hc⟩
  · exact hs.elapse 1
  · exact SyncOk.exec (hm.same (by simp +contextual [ModeSame])) (hs.same (by simp [SyncSame])) hc

end Sys2Proof.Machine
end


section
/-! SUPPORT. Reset, and what every restart leaves (R169, R170). -/

namespace Sys2Proof.Machine

/-- Settles O7: `State.reset` spells out each value; the tools, the snapshots and the ports by cases. -/
theorem resetLeaves : Obligations.ResetLeaves := by
  refine ⟨rfl, rfl, rfl, rfl, rfl, rfl, rfl, rfl, rfl, rfl, rfl, rfl, rfl, rfl, rfl, rfl, rfl, rfl, rfl, rfl, rfl, rfl,
    rfl, by decide, rfl, rfl, rfl, rfl, fun i => ?_, rfl, rfl, ?_, fun p => ?_, rfl, rfl⟩
  · cases i <;> rfl
  · rintro n (rfl | rfl) <;> rfl
  · cases p <;> exact ⟨rfl, rfl, rfl, rfl, rfl, rfl, rfl, rfl, rfl, rfl, rfl, rfl⟩

/-- A port at its start-up values but for what a restart may keep: view, mask, watermark and the bytes last sent. -/
def PortState.AtStart (ps : PortState) : Prop :=
  ps = { defaultPort with view := ps.view, mask := ps.mask, watermark := ps.watermark, sent := ps.sent }

/-- Every restart puts each block at its start, whatever plan, sync state and settings it keeps (R170). -/
theorem Restarted.of_rest {t : State} {plan : Plan} {sync : SyncState} (hcontrol : t.control = restControl)
    (hframe : t.frame = restFrame plan sync) (hstartup : t.pins.startup = some 0)
    (hsearch : t.search = sweepFrom (lowestEnabled t.settings.profiles)) (hwaiting : t.waiting = noWaiting)
    (htools : ∀ i, t.tool i = vacantTool) (hsnaps : t.snap0 = vacantSnapshot ∧ t.snap1 = vacantSnapshot)
    (hring : t.ring = [] ∧ t.nextSeq = 0) (hports : ∀ p, (t.port p).AtStart) : Restarted t where
  mode := by simp [hcontrol, restControl]
  timers := by simp [hcontrol, hframe, hstartup, restControl, restFrame]
  capture := by simp [hcontrol, restControl]
  frame := by simp [hframe, restFrame]
  outcomes := by simp [hframe, restFrame]
  noise := by simp [hframe, restFrame]
  search := hsearch
  waiting := hwaiting
  tools := htools
  snaps := hsnaps
  ring := hring
  ports p := by rw [hports p]; exact ⟨rfl, rfl, rfl, rfl, rfl, rfl, rfl, rfl⟩

theorem Restarted.drivesZero {t : State} (h : Restarted t) (p : Port) : Restarted (t.drivesZero p) := by
  obtain ⟨mode, timers, capture, frame, outcomes, noise, search, waiting, tools, snaps, ring, ports⟩ := h
  constructor
  case tools => intro i; rw [← tools i]; cases i <;> simp [State.tool]
  case ports => simpa using ports
  all_goals simpa

theorem restartWarm_restarted (s : State) : Restarted s.restartWarm :=
  .of_rest rfl rfl rfl rfl rfl (by intro i; cases i <;> rfl) ⟨rfl, rfl⟩ ⟨rfl, rfl⟩ (by intro p; cases p <;> rfl)

theorem restartCold_restarted (s : State) : Restarted s.restartCold :=
  .of_rest rfl rfl rfl rfl rfl (by intro i; cases i <;> rfl) ⟨rfl, rfl⟩ ⟨rfl, rfl⟩ (by intro p; cases p <;> rfl)

theorem restartPowerOn_restarted (s : State) : Restarted s.restartPowerOn :=
  .of_rest rfl rfl rfl rfl rfl (by intro i; cases i <;> rfl) ⟨rfl, rfl⟩ ⟨rfl, rfl⟩ (by intro p; cases p <;> rfl)

/-- A part held at the restart stands as one that restarts, but for its start-up timer (log entry 7). -/
theorem heldAtRestart_restarted (s : State) :
    Restarted { s.heldAtRestart with pins := { s.heldAtRestart.pins with startup := some 0 } } :=
  .of_rest rfl rfl rfl rfl rfl (by intro i; cases i <;> rfl) ⟨rfl, rfl⟩ ⟨rfl, rfl⟩ (by intro p; cases p <;> rfl)

/-- What a cold restart returns to its default and a warm one keeps (R170). -/
structure AtDefaults (t : State) : Prop where
  settings : t.settings = defaultSettings
  epoch : t.epoch = 0
  plan : t.frame.activePlan = defaultPlan
  sync : t.frame.sync = .free
  ports : ∀ q, (t.port q).view = defaultView 24320 15104 ∧ (t.port q).mask = 0x2807 ∧ (t.port q).watermark = 8

theorem restartCold_atDefaults (s : State) : AtDefaults s.restartCold :=
  ⟨rfl, rfl, rfl, rfl, by intro q; cases q <;> exact ⟨rfl, rfl, rfl⟩⟩

theorem restartPowerOn_atDefaults (s : State) : AtDefaults s.restartPowerOn :=
  ⟨rfl, rfl, rfl, rfl, by intro q; cases q <;> exact ⟨rfl, rfl, rfl⟩⟩

theorem heldAtRestart_atDefaults (s : State) : AtDefaults s.heldAtRestart :=
  ⟨rfl, rfl, rfl, rfl, by intro q; cases q <;> exact ⟨rfl, rfl, rfl⟩⟩

theorem AtDefaults.drivesZero {t : State} (h : AtDefaults t) (p : Port) : AtDefaults (t.drivesZero p) := by
  obtain ⟨settings, epoch, plan, sync, ports⟩ := h
  constructor
  case ports => simpa using ports
  all_goals simpa

/-- What a warm restart of `s` keeps (R170). -/
structure KeptWarm (s t : State) : Prop where
  settings : t.settings = s.settings
  epoch : t.epoch = s.epoch
  plan : t.frame.activePlan = s.frame.activePlan
  sync : t.frame.sync = if s.settings.timing.syncMode = .locked then .seeking else .free
  ports : ∀ q, (t.port q).view = (s.port q).view ∧ (t.port q).mask = (s.port q).mask
    ∧ (t.port q).watermark = (s.port q).watermark

theorem restartWarm_keptWarm (s : State) : KeptWarm s s.restartWarm where
  settings := rfl
  epoch := rfl
  plan := rfl
  sync := by
    change syncAtRestart s.settings.timing.syncMode = _
    cases s.settings.timing.syncMode <;> rfl
  ports := by intro q; cases q <;> exact ⟨rfl, rfl, rfl⟩

theorem KeptWarm.drivesZero {s t : State} (h : KeptWarm s t) (p : Port) : KeptWarm s (t.drivesZero p) := by
  obtain ⟨settings, epoch, plan, sync, ports⟩ := h
  constructor
  case ports => simpa using ports
  all_goals simpa

/-- A Cold Restart judges the hold timer against the combination NONE, which stops it (R170, R173). -/
theorem restartCold_keys (s : State) :
    s.restartCold.keys = { s.keys with hold := if s.settings.combo = .none then s.keys.hold else .stopped } := by
  change (if s.settings.combo = .none then s.keys else { s.keys with hold := judgedHold s.keys .none }) = _
  split <;> simp [judgedHold]

/-- Settles O39: each command's arm, with what the restart of its kind leaves. -/
theorem restartsAndPower : Obligations.RestartsAndPower := by
  intro p s warm cold begins heldBack
  have hwarm : ∀ u, Restarted u → KeptWarm s u → warm u := fun u hr h =>
    ⟨hr, h.settings, h.epoch, h.plan, h.sync, h.ports⟩
  have hcold : ∀ u, AtDefaults u → cold u := fun u h => ⟨h.settings, h.epoch, h.plan, h.sync, h.ports⟩
  have hbegins : ∀ u : State, begins u.restartPowerOn := fun u =>
    ⟨restartPowerOn_restarted u, hcold _ (restartPowerOn_atDefaults u), rfl⟩
  have hheld : ∀ u : State, heldBack u.heldAtRestart := fun u =>
    ⟨heldAtRestart_restarted u, hcold _ (heldAtRestart_atDefaults u), rfl, rfl⟩
  refine ⟨fun hm => ?_, fun hm => ?_, fun d hd => ?_, fun hr => ?_, fun hr => ?_, ?_, fun hpow => ?_, fun hpow => ?_, ?_⟩
  · refine ⟨_, show execColdRestart p s = _ from request_eq hm, (restartCold_restarted s).drivesZero p,
      hcold _ ((restartCold_atDefaults s).drivesZero p), ?_⟩
    rw [drivesZero_keys, restartCold_keys]
  · exact ⟨_, show execWarmRestart p s = _ from request_eq hm, hwarm _ ((restartWarm_restarted s).drivesZero p)
      ((restartWarm_keptWarm s).drivesZero p),
      by rw [drivesZero_keys]; rfl⟩
  · refine ⟨_, by simp only [exec, execKeyRestartHoldExpiry, hd]; rfl, hwarm _ (restartWarm_restarted _) ?_, rfl, ?_⟩
    · obtain ⟨settings, epoch, plan, sync, ports⟩ := restartWarm_keptWarm
        { s.until d Config.keyRestartTime with keys := { (s.until d Config.keyRestartTime).keys with hold := .spent } }
      exact ⟨settings, epoch, plan, sync, by simpa using ports⟩
    · simp [Keys.levels, State.restartWarm]
  · exact ⟨_, by simp only [exec, execPowerOn, hr]; rfl, hbegins _, rfl⟩
  · exact ⟨_, by simp only [exec, execPowerOn, hr]; rfl, hheld _, rfl⟩
  · exact ⟨_, rfl, hheld _, rfl⟩
  · exact ⟨_, by simp only [exec, execResetNRise, hpow]; rfl, hbegins _, rfl⟩
  · simp only [exec, execResetNRise, hpow]; rfl
  · exact ⟨_, rfl, hheld _, rfl⟩

end Sys2Proof.Machine
end


section
/-! SUPPORT. What a well-formed reading hands on (R3 to R7, R28). -/

namespace Sys2Proof.Machine

/-- The amplitudes of a bank that never saturate (R4). -/
def InScale (bank : List Nat) : Prop := ∀ a ∈ bank, a ≤ 4095

/-- A well-formed reading has twelve channels a bank, amplitudes on scale and phases below 1024. -/
theorem wf_iff (r : Reading) : r.wf = true ↔
    (r.x.length = 12 ∧ r.y.length = 12 ∧ r.phase.length = 12) ∧ InScale r.x ∧ InScale r.y ∧ ∀ a ∈ r.phase, a < 1024 := by
  simp only [Reading.wf, Bool.and_eq_true, beq_iff_eq, List.all_eq_true, decide_eq_true_eq, and_assoc]
  exact Iff.rfl

theorem InScale.getD {bank : List Nat} (h : InScale bank) (i : Nat) : bank.getD i 0 ≤ 4095 := by
  rcases lt_or_ge i bank.length with hi | hi
  · rw [List.getD_eq_getElem _ _ hi]
    exact h _ (List.getElem_mem hi)
  · rw [List.getD_eq_default _ _ hi]
    exact Nat.zero_le _

/-- An amplitude on scale does not saturate (R4). -/
theorem InScale.saturate_getD {bank : List Nat} (h : InScale bank) (i : Nat) : saturate (bank.getD i 0) = bank.getD i 0 :=
  min_eq_left (h.getD i)

/-- A window is the first five channels of its bank (R5, log entry 5). -/
theorem InScale.windowAmps {bank : List Nat} (h : InScale bank) (hlen : bank.length = 12) :
    windowAmps bank = bank.take 5 := by
  refine List.ext_getElem (by simp [Machine.windowAmps, hlen]) (fun i hi _ => ?_)
  have hi5 : i < bank.length := by simp [Machine.windowAmps] at hi; omega
  simp only [Machine.windowAmps, List.getElem_map, List.getElem_range, List.getElem_take, h.saturate_getD]
  exact List.getD_eq_getElem _ _ hi5

/-- A band is its bank, with 0 in every channel past the last coil (R3). -/
theorem InScale.bandAmps {bank : List Nat} (h : InScale bank) (count b : Nat) :
    bandAmps count b bank = (List.range 12).map fun i => if 12 * b + i < count then bank.getD i 0 else 0 := by
  simp only [Machine.bandAmps, h.saturate_getD, Config.bandCoils]

/-- A phase of a well-formed reading is taken as it is (R5). -/
theorem phase_mod {phase : List Nat} (h : ∀ a ∈ phase, a < 1024) (i : Nat) : phase.getD i 0 % 1024 = phase.getD i 0 := by
  apply Nat.mod_eq_of_lt
  rcases lt_or_ge i phase.length with hi | hi
  · rw [List.getD_eq_getElem _ _ hi]
    exact h _ (List.getElem_mem hi)
  · rw [List.getD_eq_default _ _ hi]
    decide

/-- LISTEN_END on a slot that listens: its observation is handed on and it ends DONE (R28). -/
theorem exec_listenEnd {s : State} {k : Fin 8} {j : Job} {since : Nat} (r : Reading)
    (h : s.frame.run = .listening k j since) :
    exec (.listenEnd r) s
      = .next (((s.elapse (since + (s.frame.slotTimes k).excite + (s.frame.slotTimes k).listen - s.frame.timer)).handOn
          j r).endSlot k .done) := by
  simp only [exec, execListenEnd, h]
  rfl

/-- The noise measurement of a band hands on its peak and moves the noise cursor, wrapping to the other axis (R32, R33). -/
theorem noiseResult_eq (s : State) (axis other : Axis) (b : Nat) (bank : List Nat) (h : InScale bank)
    (hother : (axis, other) = (.x, .y) ∨ (axis, other) = (.y, .x)) :
    s.noiseResult axis b bank = { s with frame := { s.frame with
      noiseFloor := peakAmp ((List.range 12).map fun i => if 12 * b + i < s.settings.coils axis then bank.getD i 0 else 0)
      noiseAxis := if b + 1 < bands (s.settings.coils axis) then axis else other
      noiseBand := if b + 1 < bands (s.settings.coils axis) then b + 1 else 0 } } := by
  unfold State.noiseResult noiseAfter
  rw [h.bandAmps]
  rcases hother with ho | ho <;> obtain ⟨rfl, rfl⟩ := Prod.mk.inj ho <;> split <;> simp

/-- Settles O47: a case per job, each the handing on of a well-formed reading. -/
theorem listenEndHandsOnItsObservation : Obligations.ListenEndHandsOnItsObservation := by
  intro s k j since r hrun hwf w t channels handed
  obtain ⟨⟨hlx, hly, -⟩, hx, hy, hphase⟩ := (wf_iff r).1 hwf
  have hend : exec (.listenEnd r) s = .next ((t.handOn j r).endSlot k .done) := exec_listenEnd r hrun
  have hhanded : ∀ f, t.handOn j r = { t with frame := f } → handed f := fun f hf => by
    simp only [handed, hend, hf]
  refine ⟨?_, ?_, ?_, ?_, ?_, ?_, ?_, ?_⟩
  · rintro i f cx cy rfl
    exact hhanded _ (by simp only [State.handOn, hx.windowAmps hlx, hy.windowAmps hly, phase_mod hphase])
  · rintro i f cx cy rfl
    exact hhanded _ (by simp only [State.handOn, hx.windowAmps hlx, hy.windowAmps hly])
  · rintro i f coil rfl
    exact hhanded _ (by simp only [State.handOn, hx.saturate_getD])
  · rintro b rfl
    exact hhanded _ (noiseResult_eq t .x .y b r.x hx (.inl rfl))
  · rintro b rfl
    exact hhanded _ (noiseResult_eq t .y .x b r.y hy (.inr rfl))
  · rintro f b rfl
    exact hend
  · rintro f coil b rfl
    exact hend
  · rintro kind f bx byy xd yd rfl
    exact hend

end Sys2Proof.Machine
end


section
/-! SUPPORT. The peak of a run of amplitudes and the three-point rule (R59 to R62). -/

namespace Sys2Proof.Machine

/-! ## The peak (R59) -/

theorem foldl_max_spec (l : List Nat) (b : Nat) :
    b ≤ l.foldl max b ∧ (∀ a ∈ l, a ≤ l.foldl max b) ∧ (l.foldl max b = b ∨ l.foldl max b ∈ l) := by
  induction l generalizing b with
  | nil => simp
  | cons x xs ih =>
    obtain ⟨hb, hle, hmem⟩ := ih (max b x)
    refine ⟨(le_max_left b x).trans hb, ?_, ?_⟩
    · rintro a (_ | ⟨_, ha⟩)
      · exact (le_max_right b _).trans hb
      · exact hle a ha
    · rcases hmem with hmem | hmem
      · rw [List.foldl_cons, hmem]
        rcases max_choice b x with hmax | hmax
        · exact .inl hmax
        · exact .inr (by simp [hmax])
      · exact .inr (List.mem_cons_of_mem x hmem)

theorem le_peakAmp {amps : List Nat} {a : Nat} (h : a ∈ amps) : a ≤ peakAmp amps := (foldl_max_spec amps 0).2.1 a h

/-- The peak amplitude is one of the run's. -/
theorem peakAmp_mem {amps : List Nat} (h : amps ≠ []) : peakAmp amps ∈ amps := by
  rcases (foldl_max_spec amps 0).2.2 with hzero | hmem
  · obtain ⟨a, ha⟩ := List.exists_mem_of_ne_nil amps h
    have hle := le_peakAmp ha
    have hpeak : peakAmp amps = 0 := hzero
    rwa [show peakAmp amps = a by omega]
  · exact hmem

theorem peakIndex_lt {amps : List Nat} (h : amps ≠ []) : peakIndex amps < amps.length :=
  List.findIdx_lt_length_of_exists ⟨_, peakAmp_mem h, by simp⟩

theorem getD_peakIndex {amps : List Nat} (h : amps ≠ []) : amps.getD (peakIndex amps) 0 = peakAmp amps := by
  rw [List.getD_eq_getElem _ _ (peakIndex_lt h)]
  have hfound := List.findIdx_getElem (p := (· == peakAmp amps)) (xs := amps) (w := peakIndex_lt h)
  exact eq_of_beq hfound

theorem getD_le_peakAmp {amps : List Nat} {i : Nat} (h : i < amps.length) : amps.getD i 0 ≤ peakAmp amps := by
  rw [List.getD_eq_getElem _ _ h]
  exact le_peakAmp (List.getElem_mem h)

/-- The peak is the lowest index with the peak amplitude: before it every amplitude is below (R59). -/
theorem getD_lt_peakAmp {amps : List Nat} {i : Nat} (h : amps ≠ []) (hi : i < peakIndex amps) :
    amps.getD i 0 < peakAmp amps := by
  have hlen : i < amps.length := hi.trans (peakIndex_lt h)
  refine lt_of_le_of_ne (getD_le_peakAmp hlen) ?_
  rw [List.getD_eq_getElem _ _ hlen]
  simpa using List.not_of_lt_findIdx hi

theorem edgePeak_iff (amps : List Nat) : edgePeak amps = true ↔ peakIndex amps = 0 ∨ peakIndex amps + 1 = amps.length := by
  simp [edgePeak]

/-! ## The rounded quotient (R1) -/

/-- The rounded quotient is within half a divisor, a half going away from zero (R1). -/
theorem roundDiv_spec (a b : Int) (hb : 0 < b) :
    -b ≤ 2 * (a - roundDiv a b * b) ∧ 2 * (a - roundDiv a b * b) ≤ b
      ∧ (2 * (a - roundDiv a b * b) = b → a < 0) ∧ (2 * (a - roundDiv a b * b) = -b → 0 < a) := by
  have hquot : ∀ n : Int, n / (2 * b) * (2 * b) ≤ n ∧ n < n / (2 * b) * (2 * b) + 2 * b := fun n =>
    ⟨Int.ediv_mul_le n (by omega), by linarith [Int.lt_ediv_add_one_mul_self n (show 0 < 2 * b by omega)]⟩
  unfold roundDiv
  split
  · next ha =>
    obtain ⟨hlow, hhigh⟩ := hquot (2 * a + b)
    generalize (2 * a + b) / (2 * b) = q at *
    refine ⟨by linarith, by linarith, fun h => by linarith, fun h => ?_⟩
    refine lt_of_le_of_ne ha ?_
    rintro rfl
    have hq : b * (2 * q - 1) = 0 := by linarith
    have hodd : 2 * q - 1 = 0 := (mul_eq_zero.1 hq).resolve_left hb.ne'
    omega
  · next ha =>
    obtain ⟨hlow, hhigh⟩ := hquot (2 * -a + b)
    generalize (2 * -a + b) / (2 * b) = q at *
    exact ⟨by linarith, by linarith, fun _ => by omega, fun h => by linarith⟩

/-- A quotient of a dividend within `k` divisors is within `k`. -/
theorem roundDiv_bound {a b k : Int} (hb : 0 < b) (hlow : -(k * b) ≤ a) (hhigh : a ≤ k * b) :
    -k ≤ roundDiv a b ∧ roundDiv a b ≤ k := by
  obtain ⟨h1, h2, -, -⟩ := roundDiv_spec a b hb
  constructor
  · by_contra hlt
    have hmul : (roundDiv a b + 1) * b ≤ -k * b := mul_le_mul_of_nonneg_right (by omega) hb.le
    linarith
  · by_contra hlt
    have hmul : (k + 1) * b ≤ roundDiv a b * b := mul_le_mul_of_nonneg_right (by omega) hb.le
    linarith

/-- A whole quotient is its own rounding. -/
theorem roundDiv_mul_self {k b : Int} (hb : 0 < b) : roundDiv (k * b) b = k := by
  obtain ⟨h1, h2, -, -⟩ := roundDiv_spec (k * b) b hb
  have hlow : b * (2 * (k - roundDiv (k * b) b) - 1) ≤ 0 := by linarith
  have hhigh : 0 ≤ b * (2 * (k - roundDiv (k * b) b) + 1) := by linarith
  have hle := nonpos_of_mul_nonpos_right hlow hb
  have hge := nonneg_of_mul_nonneg_right hhigh hb
  omega

theorem clamp_of_mem {lo hi v : Int} (hlo : lo ≤ v) (hhi : v ≤ hi) : clamp lo hi v = v := by
  simp [clamp, not_lt.2 hlo, not_lt.2 hhi]

theorem clamp_eq_max_min {lo hi : Int} (h : lo ≤ hi) (v : Int) : clamp lo hi v = max lo (min v hi) := by
  unfold clamp
  split
  · omega
  · split <;> omega

/-! ## The three-point rule (R60, R61) -/

/-- Off an edge, with `l`, `c` and `r` the peak and its neighbours, the offset is the rounded quotient of R61. -/
theorem peakOffset_eq_roundDiv {amps : List Nat} {l c r : Int} (hedge : edgePeak amps = false)
    (hl : l = amps.getD (peakIndex amps - 1) 0) (hc : c = amps.getD (peakIndex amps) 0)
    (hr : r = amps.getD (peakIndex amps + 1) 0) (hlc : l < c) (hrc : r ≤ c) :
    peakOffset amps = roundDiv (128 * (r - l)) (2 * c - l - r) := by
  have hbound := roundDiv_bound (a := 128 * (r - l)) (b := 2 * c - l - r) (k := 128) (by omega) (by omega) (by omega)
  have hdenom : 2 * c - l - r ≠ 0 := by omega
  simp only [peakOffset, hedge, Bool.false_eq_true, if_false, ← hl, ← hc, ← hr, hdenom]
  exact clamp_of_mem hbound.1 hbound.2

/-- Settles O54: the peak's lemmas, and off an edge the rounded quotient's. -/
theorem peakAndOffset : Obligations.PeakAndOffset := by
  refine ⟨fun _ _ => rfl, fun _ _ _ _ _ _ => ⟨rfl, rfl⟩, fun amps hlen => ?_⟩
  intro m
  have hne : amps ≠ [] := by rintro rfl; simp at hlen
  have hpeak : amps.getD m 0 = peakAmp amps := getD_peakIndex hne
  refine ⟨hpeak.symm, edgePeak_iff amps, peakIndex_lt hne, fun i hi => hpeak ▸ getD_le_peakAmp hi,
    fun i hi => hpeak ▸ getD_lt_peakAmp hne hi, fun hedge => ?_, fun hpos hlast l c r hl hc hr => ?_,
    fun first span hspan => ?_⟩
  · simp [peakOffset, (edgePeak_iff amps).2 hedge]
  · have hlc : l < c := by
      rw [hl, hc, hpeak]
      exact_mod_cast getD_lt_peakAmp hne (show m - 1 < m by omega)
    have hrc : r ≤ c := by
      rw [hr, hc, hpeak]
      exact_mod_cast getD_le_peakAmp hlast
    have hedge : edgePeak amps = false := by
      rw [← Bool.not_eq_true, edgePeak_iff]
      omega
    have hdenom : 0 < 2 * c - l - r := by omega
    rw [peakOffset_eq_roundDiv hedge hl hc hr hlc hrc]
    obtain ⟨hlow, hhigh, hhalf, hhalf'⟩ := roundDiv_spec (128 * (r - l)) (2 * c - l - r) hdenom
    obtain ⟨hge, hle⟩ := roundDiv_bound (a := 128 * (r - l)) (k := 128) hdenom (by omega) (by omega)
    refine ⟨hlc, hdenom, hge, hle, hlow, hhigh, fun h => ?_, fun h => ?_, fun h => ?_⟩
    · have := hhalf h; omega
    · have := hhalf' h; omega
    · rw [show 128 * (r - l) = 128 * (2 * c - l - r) by omega]
      exact roundDiv_mul_self hdenom
  · exact clamp_eq_max_min hspan _

end Sys2Proof.Machine
end


section
/-! SUPPORT. The sync state and the events of a frame start, and what a frame start with nothing to apply leaves. -/

namespace Sys2Proof.Machine

/-! ## The parts of a frame start -/

/-- The state of a frame start with the frame timer at 0 and FrameCount advanced, nothing applied yet (R9). -/
def State.frameBegun (s : State) : State :=
  { s with frame := { s.frame with
    count := s.frame.count + 1, timer := 0, midDone := false, phase := .running, run := .none,
    obs0 := noObs, obs1 := noObs } }

@[simp] theorem frameBegun_settings (s : State) : s.frameBegun.settings = s.settings := rfl
@[simp] theorem frameBegun_waiting (s : State) : s.frameBegun.waiting = s.waiting := rfl
@[simp] theorem frameBegun_control (s : State) : s.frameBegun.control = s.control := rfl
@[simp] theorem frameBegun_frame_sync (s : State) : s.frameBegun.frame.sync = s.frame.sync := rfl
@[simp] theorem frameBegun_frame_syncTimer (s : State) : s.frameBegun.frame.syncTimer = s.frame.syncTimer := rfl
@[simp] theorem frameBegun_frame_pendingPlan (s : State) : s.frameBegun.frame.pendingPlan = s.frame.pendingPlan := rfl
@[simp] theorem frameBegun_port (s : State) (q : Port) : s.frameBegun.port q = s.port q := by cases q <;> rfl

/-- The state of a frame start once the Pending Plan and the pending settings are in force (R24, R141). -/
def State.frameApplied (s : State) : State := s.frameBegun.applyPlan.applyWaiting

theorem frameStart_eq (s : State) :
    s.frameStart = ((s.frameApplied.expireAfterChange s.waiting.timing.isSome).enterSurvey.layOut).tickBoth
      .frameStart := rfl

/-- The sync timer's expiry falls at a frame start that has applied a Timing change (R16, log entry 12). -/
def State.Expires (s : State) (applied : Bool) : Prop :=
  applied = true ∧ ∃ d, s.frame.syncTimer = some d ∧ s.settings.timing.expiry ≤ d

theorem expireAfterChange_of_expires {s : State} {applied : Bool} (h : s.Expires applied) :
    s.expireAfterChange applied = s.syncExpire := by
  obtain ⟨happlied, d, hd, hle⟩ := h
  simp [State.expireAfterChange, hd, happlied, hle]

theorem expireAfterChange_of_not_expires {s : State} {applied : Bool} (h : ¬ s.Expires applied) :
    s.expireAfterChange applied = s := by
  unfold State.expireAfterChange
  split
  · next d hd => exact if_neg fun hc => h ⟨hc.1, d, hd, hc.2⟩
  · rfl

/-- An application changes the sync state and stops the sync timer exactly when it changes SyncMode (R13). -/
theorem applyWaiting_sync (s : State) :
    (s.applyWaiting.frame.sync, s.applyWaiting.frame.syncTimer)
      = if (s.settings.applied s.waiting).timing.syncMode = s.settings.timing.syncMode then
          (s.frame.sync, s.frame.syncTimer)
        else (if (s.settings.applied s.waiting).timing.syncMode = .locked then .seeking else .free, none) := by
  unfold State.applyWaiting
  split
  · simp only [comboEffects_frame, State.syncEffects, profileEffects_settings, raiseSettingsChanged_settings,
      profileEffects_frame, raiseSettingsChanged_frame]
    split
    · simp
    · cases (s.settings.applied s.waiting).timing.syncMode <;> simp
  · next hany => rw [takers_any_false (by simpa using hany : s.waiting.any = false), applied_noWaiting, if_pos rfl]

theorem frameApplied_sync (s : State) :
    (s.frameApplied.frame.sync, s.frameApplied.frame.syncTimer)
      = if (s.settings.applied s.waiting).timing.syncMode = s.settings.timing.syncMode then
          (s.frame.sync, s.frame.syncTimer)
        else (if (s.settings.applied s.waiting).timing.syncMode = .locked then .seeking else .free, none) := by
  rw [State.frameApplied, applyWaiting_sync]
  by_cases hkept : (s.settings.applied s.waiting).timing.syncMode = s.settings.timing.syncMode
  · simp only [applyPlan_settings, applyPlan_waiting, frameBegun_settings, frameBegun_waiting, hkept, if_true]
    simp
  · simp only [applyPlan_settings, applyPlan_waiting, frameBegun_settings, frameBegun_waiting, hkept, if_false]

@[simp] theorem frameApplied_settings (s : State) : s.frameApplied.settings = s.settings.applied s.waiting := by
  simp [State.frameApplied]

@[simp] theorem frameApplied_control (s : State) : s.frameApplied.control = s.control := by
  simp [State.frameApplied]

/-! ## The sync state after a frame start (R13, R16) -/

theorem frameStart_sync_eq (s : State) :
    s.frameStart.frame.sync = (s.frameApplied.expireAfterChange s.waiting.timing.isSome).frame.sync
      ∧ s.frameStart.frame.syncTimer = (s.frameApplied.expireAfterChange s.waiting.timing.isSome).frame.syncTimer := by
  rw [frameStart_eq]
  simp

/-- A frame start that applies a change of SyncMode settles the sync state and stops the sync timer (R13). -/
theorem frameStart_sync_changed {s : State}
    (h : (s.settings.applied s.waiting).timing.syncMode ≠ s.settings.timing.syncMode) :
    s.frameStart.frame.sync = (if (s.settings.applied s.waiting).timing.syncMode = .locked then .seeking else .free)
      ∧ s.frameStart.frame.syncTimer = none ∧ ¬ s.frameApplied.Expires s.waiting.timing.isSome := by
  have hsync := frameApplied_sync s
  rw [if_neg h, Prod.mk.injEq] at hsync
  have hnot : ¬ s.frameApplied.Expires s.waiting.timing.isSome := by
    rintro ⟨-, d, hd, -⟩
    rw [hsync.2] at hd
    cases hd
  obtain ⟨h1, h2⟩ := frameStart_sync_eq s
  rw [expireAfterChange_of_not_expires hnot] at h1 h2
  exact ⟨h1.trans hsync.1, h2.trans hsync.2, hnot⟩

/-- With SyncMode kept, the sync state and timer stay unless the expiry falls (R13, R16). -/
theorem frameStart_sync_kept {s : State}
    (h : (s.settings.applied s.waiting).timing.syncMode = s.settings.timing.syncMode)
    (hnot : ¬ s.frameApplied.Expires s.waiting.timing.isSome) :
    s.frameStart.frame.sync = s.frame.sync ∧ s.frameStart.frame.syncTimer = s.frame.syncTimer := by
  have hsync := frameApplied_sync s
  rw [if_pos h, Prod.mk.injEq] at hsync
  obtain ⟨h1, h2⟩ := frameStart_sync_eq s
  rw [expireAfterChange_of_not_expires hnot] at h1 h2
  exact ⟨h1.trans hsync.1, h2.trans hsync.2⟩

/-- The expiry at a frame start leaves SEEKING with the sync timer stopped (R16). -/
theorem frameStart_sync_expired {s : State} (h : s.frameApplied.Expires s.waiting.timing.isSome) :
    s.frameStart.frame.sync = .seeking ∧ s.frameStart.frame.syncTimer = none := by
  obtain ⟨h1, h2⟩ := frameStart_sync_eq s
  rw [expireAfterChange_of_expires h] at h1 h2
  rw [h1, h2]
  simp [State.syncExpire]

/-- With SyncMode kept, the expiry falls at a frame start when a Timing change is applied whose length the sync timer has
reached (R16). -/
theorem frameApplied_expires_iff {s : State}
    (h : (s.settings.applied s.waiting).timing.syncMode = s.settings.timing.syncMode) :
    s.frameApplied.Expires s.waiting.timing.isSome ↔
      s.waiting.timing ≠ none ∧ ∃ d, s.frame.syncTimer = some d ∧ (s.settings.applied s.waiting).timing.expiry ≤ d := by
  have hsync := frameApplied_sync s
  rw [if_pos h, Prod.mk.injEq] at hsync
  rw [State.Expires, hsync.2, frameApplied_settings, ← Option.isSome_iff_ne_none]

/-! ## The events of a frame start -/

theorem raise_starting {s : State} (h : s.control.mode = .starting) (e : Event) (p : Port) : s.raise e p = s := by
  simp [State.raise, h]

theorem applyPlan_events_starting {s : State} (h : s.control.mode = .starting) (q : Port) :
    (s.applyPlan.port q).events = (s.port q).events := by
  unfold State.applyPlan
  split
  · rw [port_completeTask]
    split <;> simp
  · rfl

theorem applyWaiting_events_starting {s : State} (h : s.control.mode = .starting) (q : Port) :
    (s.applyWaiting.port q).events = (s.port q).events := by
  unfold State.applyWaiting
  split
  · simp [State.raiseSettingsChanged, State.raiseIf, raise_starting, h]
  · rfl

theorem expireAfterChange_events_starting {s : State} (h : s.control.mode = .starting) (applied : Bool) (q : Port) :
    ((s.expireAfterChange applied).port q).events = (s.port q).events := by
  by_cases hx : s.Expires applied
  · rw [expireAfterChange_of_expires hx, State.syncExpire, raiseBoth_starting (by simpa using h), port_update]
  · rw [expireAfterChange_of_not_expires hx]

theorem tick_events_starting {s : State} (h : s.control.mode = .starting) (pt : TickPoint) (p q : Port) :
    ((s.tick pt p).port q).events = (s.port q).events := by
  rw [port_tick]
  split
  · split
    · rw [raise_starting h]
    · rfl
  · rfl

/-- In STARTING a frame start raises nothing (R130). -/
theorem frameStart_events_starting {s : State} (h : s.control.mode = .starting) (q : Port) :
    (s.frameStart.port q).events = (s.port q).events := by
  have hsurvey : (s.frameApplied.expireAfterChange s.waiting.timing.isSome).enterSurvey
      = s.frameApplied.expireAfterChange s.waiting.timing.isSome := by
    simp [State.enterSurvey, h]
  rw [frameStart_eq, State.tickBoth, tick_events_starting (by simp [hsurvey, h]),
    tick_events_starting (by simp [hsurvey, h]), layOut_port, hsurvey, expireAfterChange_events_starting (by simpa using h),
    State.frameApplied, applyWaiting_events_starting (by simpa using h), applyPlan_events_starting (by simpa using h), frameBegun_port]

/-- What a frame start raises of SyncLost: it falls with the sync timer's expiry alone (R16). -/
theorem frameStart_syncLost (s : State) (q : Port) (h : s.control.mode ≠ .starting) :
    Event.syncLost.isIn (s.frameStart.port q).events = true ↔
      Event.syncLost.isIn (s.port q).events = true ∨ s.frameApplied.Expires s.waiting.timing.isSome := by
  have happlied : Event.syncLost.isIn (s.frameApplied.port q).events = Event.syncLost.isIn (s.port q).events := by
    rw [State.frameApplied, applyWaiting_isIn _ _ _ (by simpa using h), applyPlan_isIn _ _ _ (by simpa using h)]
    simp [show (Event.taskDone == Event.syncLost) = false from rfl,
      show (Event.settingsChanged == Event.syncLost) = false from rfl]
  have hmode : (s.frameApplied.expireAfterChange s.waiting.timing.isSome).enterSurvey.control.mode ≠ .starting := by
    have hleaves := frameStart_leaves s
    rw [Leaves, frameStart_eq] at hleaves
    simp only [tickBoth_control, layOut_control] at hleaves
    exact fun hc => h (hleaves hc)
  rw [frameStart_eq, tickBoth_isIn _ _ _ _ (by simpa using hmode), layOut_port, enterSurvey_isIn]
  by_cases hx : s.frameApplied.Expires s.waiting.timing.isSome
  · rw [expireAfterChange_of_expires hx, State.syncExpire, raiseBoth_isIn _ _ _ _ (by simpa using h)]
    simp [hx]
  · rw [expireAfterChange_of_not_expires hx]
    simp [hx, happlied]

/-- A frame start at which no expiry falls keeps SyncLost as it is, in STARTING too. -/
theorem frameStart_syncLost_quiet {s : State} (h : ¬ s.frameApplied.Expires s.waiting.timing.isSome) (q : Port) :
    Event.syncLost.isIn (s.frameStart.port q).events = Event.syncLost.isIn (s.port q).events := by
  by_cases hm : s.control.mode = .starting
  · rw [frameStart_events_starting hm]
  · rw [Bool.eq_iff_iff, frameStart_syncLost s q hm]
    simp [h]

/-- A frame start never raises SyncRegained nor Restarted. -/
theorem frameStart_isIn_kept (s : State) (q : Port) {e : Event} (he : e = .syncRegained ∨ e = .restarted) :
    e.isIn (s.frameStart.port q).events = e.isIn (s.port q).events := by
  by_cases hm : s.control.mode = .starting
  · rw [frameStart_events_starting hm]
  · have hother : (Event.taskDone == e) = false ∧ (Event.settingsChanged == e) = false ∧ (Event.modeChanged == e) = false
        ∧ (Event.tickMissed == e) = false ∧ e ≠ .syncLost := by
      rcases he with rfl | rfl <;> decide
    obtain ⟨htask, hsettings, hmode, htick, hlost⟩ := hother
    rw [frameStart_isIn _ _ _ hm hlost]
    simp [htask, hsettings, hmode, htick]

/-! ## A frame start with nothing to apply -/

theorem applyPlan_of_none {s : State} (h : s.frame.pendingPlan = none) : s.applyPlan = s := by
  simp [State.applyPlan, h]

theorem applyWaiting_of_noWaiting {s : State} (h : s.waiting = noWaiting) : s.applyWaiting = s := by
  unfold State.applyWaiting
  rw [if_neg]
  rw [h]
  decide

theorem tick_of_ne {s : State} {pt : TickPoint} {p : Port} (h : (s.port p).tickPoint ≠ pt) : s.tick pt p = s := by
  simp [State.tick, h]

theorem enterSurvey_of_unreserved {s : State} (hres : s.control.reservation = none) (hmode : s.control.mode = .scanning) :
    s.enterSurvey = s := by
  simp [State.enterSurvey, hres, hmode]

/-- A frame start in SCANNING with no plan, no change, no survey waiting, no sync timer and no tick point raises nothing. -/
theorem frameStart_events_idle {s : State} (hplan : s.frame.pendingPlan = none) (hwait : s.waiting = noWaiting)
    (htimer : s.frame.syncTimer = none) (hres : s.control.reservation = none) (hmode : s.control.mode = .scanning)
    (htick : ∀ p, (s.port p).tickPoint ≠ .frameStart) (q : Port) : (s.frameStart.port q).events = (s.port q).events := by
  have hnot : ∀ u : State, u.frame.syncTimer = none → ∀ c, ¬ u.Expires c := by
    rintro u hu c ⟨-, d, hd, -⟩
    rw [hu] at hd
    cases hd
  rw [frameStart_eq, State.frameApplied, applyPlan_of_none (by simpa using hplan),
    applyWaiting_of_noWaiting (by simpa using hwait), expireAfterChange_of_not_expires (hnot _ (by simpa using htimer) _),
    enterSurvey_of_unreserved (by simpa using hres) (by simpa using hmode), State.tickBoth,
    tick_of_ne, tick_of_ne, layOut_port, frameBegun_port]
  all_goals simpa using htick _

end Sys2Proof.Machine
end


section
/-! SUPPORT. The timed events of the frame (R8 to R10, R13, R16, R171). -/

namespace Sys2Proof.Machine

/-- An event outside a frame start's own clauses is none of theirs. -/
theorem beq_of_ofFrameStart {e e' : Event} (he : e.ofFrameStart = true) (he' : e'.ofFrameStart = false) :
    (e' == e) = false := by
  rw [beq_eq_false_iff_ne]
  rintro rfl
  rw [he] at he'
  cases he'

/-- Outside STARTING an event raised at both ports joins each port's record and nothing else (R130). -/
theorem port_raiseBoth {s : State} (h : s.control.mode ≠ .starting) (e : Event) (q : Port) :
    (s.raiseBoth e).port q = { s.port q with events := e.addTo (s.port q).events } := by
  rw [State.raiseBoth, port_raise, port_raise]
  cases q <;> simp [h]

/-- The end of STARTING, its first frame start seen from the state without Restarted (R171). -/
theorem scanBegun_frameStarted (s : State) :
    FrameStarted { s with control := { s.control with mode := .scanning, owner := none } }
      (s.scanBegun.raiseBoth .restarted).frameStart := by
  have hmode : s.scanBegun.control.mode ≠ .starting := by simp [State.scanBegun]
  have hport : ∀ q, s.scanBegun.port q = s.port q := by intro q; cases q <;> rfl
  refine (frameStart_started _).seenFrom ?_ ?_ ?_ ?_ ?_ ?_ ?_ ?_ ?_ (fun p => ?_) (fun p e he => ?_)
  case refine_8 => intro i; cases i <;> simp [State.scanBegun, State.tool]
  case refine_10 => simp [port_raiseBoth hmode, hport]
  case refine_11 =>
    rw [raiseBoth_isIn _ _ _ _ hmode, hport, beq_of_ofFrameStart he rfl, Bool.or_false]
    cases p <;> rfl
  all_goals simp [State.scanBegun]

/-- Settles O40: the frame start of `scanBegun_frameStarted`, which finds nothing to apply and nothing to raise. -/
theorem startingEndBeginsTheScan : Obligations.StartingEndBeginsTheScan := by
  intro s d hd hmode hres hquiet hplan hwait htimer late
  have hports := hquiet hmode
  have hnone : late.frame.syncTimer = none := by simp [late, State.elapse, htimer]
  have hbegun : late.scanBegun.control.mode ≠ .starting := by simp [State.scanBegun]
  have hport : ∀ q, late.scanBegun.port q = s.port q := by intro q; cases q <;> rfl
  have hraised : ∀ q, (late.scanBegun.raiseBoth .restarted).port q
      = { s.port q with events := Event.restarted.addTo (s.port q).events } := fun q => by
    rw [port_raiseBoth hbegun, hport]
  have happlied : s.settings.applied s.waiting = s.settings := by rw [hwait, applied_noWaiting]
  have hkept : ¬ (late.scanBegun.raiseBoth .restarted).frameApplied.Expires
      (late.scanBegun.raiseBoth .restarted).waiting.timing.isSome := by
    rintro ⟨hsome, -⟩
    simp [late, State.scanBegun, hwait, noWaiting] at hsome
  refine ⟨(late.scanBegun.raiseBoth .restarted).frameStart, ?_, scanBegun_frameStarted late, ?_, ?_, ?_, ?_, ?_, ?_,
    fun p => ?_⟩
  · simp only [exec, execStartingEnd, hd]
    rfl
  · simp [State.scanBegun]
  · simp [frameStart_control, State.enterSurvey, State.scanBegun, late, hres]
  · simp [frameStart_control, State.enterSurvey, State.scanBegun, late, hres]
  · simpa [State.scanBegun, late] using happlied
  · simp [frameStart_frame_activePlan, State.scanBegun, late, hplan]
  · rw [(frameStart_sync_kept (by simp [State.scanBegun, late, hwait, noWaiting, takeChange]) hkept).1]
    simp [State.scanBegun, late]
  · rw [frameStart_events_idle (by simp [State.scanBegun, late, hplan]) (by simp [State.scanBegun, late, hwait])
      (by simp [State.scanBegun, hnone]) (by simp [State.scanBegun, late, hres]) (by simp [State.scanBegun])
      (by simp [hraised, (hports _).2.2.2.2.2]), hraised, (hports p).1]
    rfl

end Sys2Proof.Machine
end


section
/-! SUPPORT. SCHEDULED_FRAME_START, MID_POINT and SYNC_TIMER_EXPIRY (R8 to R10, R13, R16). -/

namespace Sys2Proof.Machine

/-- A tick point leaves its port with TickPending set where it is the port's, and TickMissed where it was set before
(R133). -/
theorem port_tick_self (s : State) (pt : TickPoint) (p : Port) (h : s.control.mode ≠ .starting) :
    (s.tick pt p).port p = { s.port p with
      tickPending := (s.port p).tickPending || (s.port p).tickPoint == pt
      events := if (s.port p).tickPoint = pt ∧ (s.port p).tickPending = true then Event.addTo .tickMissed (s.port p).events
        else (s.port p).events } := by
  rw [port_tick]
  by_cases hpt : (s.port p).tickPoint = pt
  · by_cases hpend : (s.port p).tickPending = true
    · simp [hpt, hpend, port_raise, h]
    · simp [hpt, hpend]
  · have hbeq : ((s.port p).tickPoint == pt) = false := by simpa using hpt
    simp [hpt, hbeq]

/-- The same of a tick point that falls at both ports. -/
theorem port_tickBoth (s : State) (pt : TickPoint) (q : Port) (h : s.control.mode ≠ .starting) :
    (s.tickBoth pt).port q = { s.port q with
      tickPending := (s.port q).tickPending || (s.port q).tickPoint == pt
      events := if (s.port q).tickPoint = pt ∧ (s.port q).tickPending = true then Event.addTo .tickMissed (s.port q).events
        else (s.port q).events } := by
  have hother : ∀ (u : State) (p : Port), q ≠ p → (u.tick pt p).port q = u.port q := fun u p hp => by
    rw [port_tick, if_neg fun hc => hp hc.1]
  unfold State.tickBoth
  cases q
  · rw [hother _ _ (by simp), port_tick_self _ _ _ h]
  · rw [port_tick_self _ _ _ (by simpa using h), hother _ _ (by simp)]

/-- A running frame timer that time carries to `t` reads `t`, or what it read when it had passed it (log entry 2). -/
theorem untilFrame_timer {s : State} (h : s.frame.phase ≠ .stopped) (t : Nat) :
    (s.untilFrame t).frame.timer = max s.frame.timer t := by
  simp only [State.untilFrame, State.elapse, h, if_false]
  omega

/-- The sync state of a frame start after `n` µs, by what its settings change (R13, R16). -/
theorem elapse_frameStart_sync (s : State) (n : Nat) :
    let t := (s.elapse n).frameStart
    let now := (s.settings.applied s.waiting).timing
    let quiet := ∀ p, Event.syncLost.isIn (t.port p).events = Event.syncLost.isIn (s.port p).events
    (now.syncMode ≠ s.settings.timing.syncMode →
        t.frame.sync = (if now.syncMode = .locked then .seeking else .free) ∧ t.frame.syncTimer = none ∧ quiet)
    ∧ (now.syncMode = s.settings.timing.syncMode → s.frame.syncTimer = none →
        t.frame.sync = s.frame.sync ∧ t.frame.syncTimer = none ∧ quiet)
    ∧ ∀ d, now.syncMode = s.settings.timing.syncMode → s.frame.syncTimer = some d →
        let expires := s.waiting.timing ≠ none ∧ now.expiry ≤ d + n
        (expires → t.frame.sync = .seeking ∧ t.frame.syncTimer = none
          ∧ (s.control.mode ≠ .starting → ∀ p, Event.syncLost.isIn (t.port p).events = true))
        ∧ (¬ expires → t.frame.sync = s.frame.sync ∧ t.frame.syncTimer = some (d + n) ∧ quiet) := by
  intro t now quiet
  have htimer : (s.elapse n).frame.syncTimer = s.frame.syncTimer.map (· + n) := rfl
  have hquiet : ¬ (s.elapse n).frameApplied.Expires (s.elapse n).waiting.timing.isSome → quiet := fun hnot p => by
    rw [frameStart_syncLost_quiet hnot, elapse_port]
  have hexpires := frameApplied_expires_iff (s := s.elapse n)
  refine ⟨fun hmode => ?_, fun hmode hnone => ?_, fun d hmode hd => ?_⟩
  · obtain ⟨hsync, hstop, hnot⟩ := frameStart_sync_changed (s := s.elapse n) hmode
    exact ⟨hsync, hstop, hquiet hnot⟩
  · have hnot : ¬ (s.elapse n).frameApplied.Expires (s.elapse n).waiting.timing.isSome := by
      rw [hexpires hmode, htimer, hnone]
      simp
    obtain ⟨hsync, hkeep⟩ := frameStart_sync_kept (s := s.elapse n) hmode hnot
    exact ⟨hsync, by rw [hkeep, htimer, hnone, Option.map_none], hquiet hnot⟩
  · have hiff : (s.elapse n).frameApplied.Expires (s.elapse n).waiting.timing.isSome
        ↔ s.waiting.timing ≠ none ∧ now.expiry ≤ d + n := by
      rw [hexpires hmode, htimer, hd]
      simp [now]
    refine ⟨fun hx => ?_, fun hx => ?_⟩
    · obtain ⟨hsync, hstop⟩ := frameStart_sync_expired (hiff.2 hx)
      exact ⟨hsync, hstop, fun hm p => (frameStart_syncLost (s.elapse n) p hm).2 (.inr (hiff.2 hx))⟩
    · have hnot := mt hiff.1 hx
      obtain ⟨hsync, hkeep⟩ := frameStart_sync_kept (s := s.elapse n) hmode hnot
      exact ⟨hsync, by rw [hkeep, htimer, hd, Option.map_some], hquiet hnot⟩

theorem exec_scheduledFrameStart {s : State} (h : s.frame.phase ≠ .stopped) :
    exec .scheduledFrameStart s = .next (s.untilFrame s.settings.timing.framePeriod).frameStart := by
  simp only [exec, execScheduledFrameStart]
  split
  · contradiction
  all_goals rfl

/-- The state with the frame's mid point fallen (R10). -/
def State.midFallen (s : State) : State := { s with frame := { s.frame with midDone := true } }

theorem exec_midPoint {s : State} (h : s.frame.phase ≠ .stopped) (hmid : s.frame.midDone = false) :
    exec .midPoint s = .next ((s.untilFrame (s.settings.timing.framePeriod / 2)).midFallen.tickBoth .midFrame) := by
  simp only [exec, execMidPoint, hmid]
  split
  · contradiction
  all_goals rfl

/-- Settles O42: a frame start's sync state by cases, the mid point's ticks, the expiry's event. -/
theorem timedFrameEvents : Obligations.TimedFrameEvents := by
  intro s
  refine ⟨fun hphase => ?_, fun hphase => ?_, fun hmode hphase hmid => ?_, fun d hmode hd => ?_⟩
  · obtain ⟨hchanged, hstopped, hrunning⟩ := elapse_frameStart_sync s (s.settings.timing.framePeriod - s.frame.timer)
    refine ⟨_, exec_scheduledFrameStart hphase, frameStart_started _, ?_, ?_, hstopped, ?_, ?_⟩
    · intro hnow hold
      have hsync := hchanged (by rw [hnow, hold]; decide)
      rwa [if_pos hnow] at hsync
    · intro hnow hold
      have hsync := hchanged (by rw [hnow, hold]; decide)
      rwa [if_neg (by rw [hnow]; decide)] at hsync
    · exact hrunning
    · intro p
      rw [frameStart_isIn_kept _ p (.inl rfl), untilFrame_port]
  · simp only [exec, execScheduledFrameStart, hphase]
  · refine ⟨_, exec_midPoint hphase hmid, by simp [State.midFallen], by simp [State.midFallen, untilFrame_timer hphase],
      by simp [State.midFallen], by simp [State.midFallen], by simp [State.midFallen], by simp [State.midFallen],
      fun p => ?_⟩
    rw [port_tickBoth _ _ _ (by simpa [State.midFallen] using hmode)]
    simp [State.midFallen]
  · refine ⟨(s.until d s.settings.timing.expiry).syncExpire, by simp only [exec, execSyncTimerExpiry, hd], ?_⟩
    refine ⟨by simp [State.syncExpire], by simp [State.syncExpire], by simp, by simp, by simp, by simp, fun p => ?_⟩
    rw [State.syncExpire, port_raiseBoth (by simpa using hmode)]
    simp

end Sys2Proof.Machine
end


section
/-! SUPPORT. The end of a hold: the scan resumes (R17, R38, R151, R152). -/

namespace Sys2Proof.Machine

/-- The state the frame of a resumed scan starts from: the Search Cursor reset, a LOCKED sync state SEEKING (R17, R38). -/
def State.toResume (s : State) : State :=
  { s with
    search := sweepFrom (lowestEnabled s.settings.profiles)
    frame := { s.frame with
      sync := if s.frame.sync = .locked then .seeking else s.frame.sync
      syncTimer := none } }

theorem resume_eq (s : State) : s.resume = s.toResume.frameStart := rfl

@[simp] theorem toResume_port (s : State) (q : Port) : s.toResume.port q = s.port q := by cases q <;> rfl
@[simp] theorem toResume_tool (s : State) (i : ToolId) : s.toResume.tool i = s.tool i := by cases i <;> rfl
@[simp] theorem toResume_control (s : State) : s.toResume.control = s.control := rfl
@[simp] theorem toResume_settings (s : State) : s.toResume.settings = s.settings := rfl
@[simp] theorem toResume_waiting (s : State) : s.toResume.waiting = s.waiting := rfl

/-- A resumed scan has a frame start, seen from any state that differs from the one before it in its events outside
`Event.ofFrameStart` alone, with the Search Cursor reset. -/
theorem resume_started {s s' : State} (hframe : s'.frame = s.frame) (hcontrol : s'.control = s.control)
    (hsettings : s'.settings = s.settings) (hwaiting : s'.waiting = s.waiting) (hepoch : s'.epoch = s.epoch)
    (hkeys : s'.keys = s.keys) (htool : ∀ i, s'.tool i = s.tool i)
    (hring : s'.ring = s.ring ∧ s'.nextSeq = s.nextSeq ∧ s'.snap0 = s.snap0 ∧ s'.snap1 = s.snap1)
    (hport : ∀ p, s'.port p = { s.port p with events := (s'.port p).events, sent := (s'.port p).sent })
    (hevents : ∀ p, ∀ e : Event, e.ofFrameStart = true → e.isIn (s'.port p).events = e.isIn (s.port p).events) :
    FrameStarted { s with search := sweepFrom (lowestEnabled s.settings.profiles) } s'.resume := by
  have hsearch : ∀ q, State.port { s with search := sweepFrom (lowestEnabled s.settings.profiles) } q = s.port q := by
    intro q; cases q <;> rfl
  refine (frameStart_started s'.toResume).seenFrom ⟨?_, ?_, ?_⟩ hcontrol hsettings hwaiting hepoch ?_ hkeys (fun i => ?_)
    hring (fun p => ?_) (fun p e he => ?_)
  · simp [State.toResume, hframe]
  · simp [State.toResume, hframe]
  · simp [State.toResume, hframe]
  · simp [State.toResume, hsettings]
  · rw [toResume_tool, htool]
    cases i <;> rfl
  · rw [toResume_port, hsearch]
    exact hport p
  · rw [toResume_port, hsearch, hevents p e he]

/-- A scan that resumes with nothing pending and no survey waiting keeps its control and its events' ModeChanged, and
settles the sync state and the Search Cursor (R17, R38). -/
theorem resume_unpending {s : State} (hwait : s.waiting = noWaiting) (hres : s.control.reservation = none)
    (hmode : s.control.mode = .scanning) :
    s.resume.control = s.control ∧ s.resume.search = sweepFrom (lowestEnabled s.settings.profiles)
      ∧ s.resume.frame.sync = (if s.frame.sync = .locked then .seeking else s.frame.sync) ∧ s.resume.frame.syncTimer = none
      ∧ ∀ q, Event.modeChanged.isIn (s.resume.port q).events = Event.modeChanged.isIn (s.port q).events := by
  have happlied : s.toResume.settings.applied s.toResume.waiting = s.toResume.settings := by
    rw [toResume_waiting, hwait, applied_noWaiting]
  have hnot : ¬ s.toResume.frameApplied.Expires s.toResume.waiting.timing.isSome := by
    rintro ⟨hsome, -⟩
    simp [hwait, noWaiting] at hsome
  obtain ⟨hsync, htimer⟩ := frameStart_sync_kept (by rw [happlied]) hnot
  refine ⟨?_, ?_, hsync, htimer, fun q => ?_⟩
  · rw [resume_eq, frameStart_control, enterSurvey_of_unreserved (by simpa using hres) (by simpa using hmode),
      toResume_control]
  · have hsearch := (frameStart_started s.toResume).search
    rw [frameStart_settings, happlied, if_pos rfl] at hsearch
    exact hsearch
  · rw [resume_eq, frameStart_isIn _ _ _ (by simp [hmode]) (by decide)]
    simp [hres, show (Event.taskDone == Event.modeChanged) = false from rfl,
      show (Event.settingsChanged == Event.modeChanged) = false from rfl,
      show (Event.tickMissed == Event.modeChanged) = false from rfl]

theorem ModeOk.survey_eq_none {s : State} (hs : ModeOk s) (h : s.control.mode ≠ .survey) : s.control.survey = none := by
  have hsurvey := hs.survey
  simpa [h] using hsurvey

/-- A hold that ends: SCANNING with no owner, a frame started, ModeChanged at both ports (R151, R152). -/
theorem endHeld_spec {s : State} (hs : ModeOk s) (h : s.control.mode = .held) :
    FrameStarted { s with
        control := { s.control with mode := .scanning, owner := none, autoResume := none }
        search := sweepFrom (lowestEnabled s.settings.profiles) } s.endHeld
      ∧ s.endHeld.control.mode = .scanning ∧ s.endHeld.control.owner = none ∧ s.endHeld.control.autoResume = none
      ∧ s.endHeld.search = sweepFrom (lowestEnabled s.settings.profiles)
      ∧ s.endHeld.frame.sync = (if s.frame.sync = .locked then .seeking else s.frame.sync)
      ∧ s.endHeld.frame.syncTimer = none ∧ ∀ q, Event.modeChanged.isIn (s.endHeld.port q).events = true := by
  have hmode : s.backToScanning.control.mode ≠ .starting := by simp
  have hsurvey := hs.survey_eq_none (by simp [h])
  have hres := hs.reservation_eq_none (by simp [h])
  obtain ⟨hcontrol, hsearch, hsync, htimer, hevents⟩ := resume_unpending (s := s.backToScanning.raiseBoth .modeChanged)
    (by simpa using hs.held h) (by simpa using hres) (by simp)
  refine ⟨?_, by simp [State.endHeld, hcontrol], by simp [State.endHeld, hcontrol], by simp [State.endHeld],
    by simp [State.endHeld, hsearch], by simpa [State.endHeld] using hsync, htimer, fun q => ?_⟩
  · have hback : { s with
        control := { s.control with mode := .scanning, owner := none, autoResume := none }
        search := sweepFrom (lowestEnabled s.settings.profiles) }
        = { s.backToScanning with search := sweepFrom (lowestEnabled s.backToScanning.settings.profiles) } := by
      simp [State.backToScanning, ← hsurvey]
    rw [hback]
    refine resume_started (by simp) (by simp) (by simp) (by simp) (by simp) (by simp) (fun i => ?_) (by simp) (fun p => ?_)
      (fun p e he => ?_)
    · cases i <;> simp [State.tool]
    · simp [port_raiseBoth hmode]
    · rw [raiseBoth_isIn _ _ _ _ hmode, beq_of_ofFrameStart he rfl, Bool.or_false, backToScanning_port]
  · rw [State.endHeld, hevents, raiseBoth_isIn _ _ _ _ hmode]
    simp

theorem exec_resumeScan {p : Port} {s : State} (h : s.control.mode ≠ .starting) : exec (.resumeScan p) s = .next
    (if s.control.mode = .held then
      if s.control.owner = some p then s.endHeld.answer p 0x51 .ok [] else s.answer p 0x51 .notOwner []
    else s.answer p 0x51 .rejected []) := by
  simp only [exec, execResumeScan, request_eq h]

/-- Settles O34: each way out of HELD is `endHeld`, and `endHeld_spec` says what that leaves. -/
theorem heldEndsByResumeOrExpiry : Obligations.HeldEndsByResumeOrExpiry := by
  intro p s hs scanning ends
  refine ⟨fun hheld howner => ?_, fun d hd => ?_, fun hheld howner => ?_, fun hheld hstarting => ?_⟩
  · refine ⟨s.endHeld, ?_, endHeld_spec hs hheld⟩
    rw [exec_resumeScan (by simp [hheld]), if_pos hheld, if_pos howner]
    rfl
  · have hheld := hs.autoResume (by simp [hd])
    refine ⟨(s.elapse (10000 * s.control.resumeDelay - d)).endHeld, ?_, endHeld_spec (hs.elapse _) hheld⟩
    simp only [exec, execAutoResumeExpiry, hd, hheld, if_true, State.until, Config.resumeUnit, Nat.mul_comm]
  · rw [exec_resumeScan (by simp [hheld]), if_pos hheld, if_neg howner]
    rfl
  · rw [exec_resumeScan hstarting, if_neg hheld]
    rfl

end Sys2Proof.Machine
end


section
/-! SUPPORT. PORT_RESET (R136). -/

namespace Sys2Proof.Machine

/-- An answer afterwards does not disturb what a frame start leaves (R123). -/
theorem FrameStarted.answered {s t : State} (h : FrameStarted s t) (p : Port) (code : Byte) (r : ResultCode)
    (pl : List Byte) : FrameStarted (s.answer p code r pl) (t.answer p code r pl) := by
  have htool : ∀ (u : State) i, (u.answer p code r pl).tool i = u.tool i := fun u i => by cases i <;> simp [State.tool]
  constructor
  case tools => simpa [htool] using h.tools
  case ports =>
    intro q
    obtain ⟨hcursor, hwatermark, hview, hmask, hlist0, hlist1, hstore⟩ := h.ports q
    refine ⟨by simpa, by simpa, by simpa, by simpa, by simpa, by simpa, ?_⟩
    rw [port_answer, port_answer]
    split
    · rfl
    · exact hstore
  case laidOut => exact h.laidOut.same (by simp) (by simp)
  case raised =>
    intro hmode q
    obtain ⟨htask, hsettings, htick, hothers⟩ := h.raised (by simpa using hmode) q
    refine ⟨?_, ?_, ?_, fun e he => ?_⟩ <;> simp only [answer_port_events, answer_frame, answer_waiting, answer_port_slot,
      answer_port_tickPoint, answer_port_tickPending]
    · exact htask
    · exact hsettings
    · exact htick
    · exact hothers e he
  all_goals simp only [answer_frame, answer_control, answer_settings, answer_waiting, answer_epoch, answer_ring,
    answer_nextSeq, answer_snap0, answer_snap1, answer_search, answer_keys, answer_port_tickPoint,
    answer_port_tickPending, answer_port_slot, answer_port_events]
  · exact h.count
  · exact h.timer
  · exact h.phase
  · exact h.clear
  · exact h.plan
  · exact h.noPlan
  · exact h.settings
  · exact h.noChange
  · exact h.epoch
  · exact h.stores
  · exact h.tick
  · exact h.task
  · exact h.mode
  · exact h.survey
  · exact h.counted
  · exact h.unsurveyed
  · exact h.capture
  · exact h.search
  · exact h.keys

/-- The state with port `p`'s items at their start and what the port began dropped; the mode stays (R136). -/
def State.portReset (s : State) (p : Port) : State :=
  State.setPort { s with
    frame := { s.frame with
      pendingPlan := if s.frame.pendingPlan.map (·.issuer) = some p then none else s.frame.pendingPlan }
    control := { s.control with
      reservation := if s.control.reservation.map (·.port) = some p then none else s.control.reservation
      capture := if s.control.capture.map (·.owner) = some p then none else s.control.capture } }
    p ((s.port p).resetTo s.settings s.nextSeq)

theorem dropPlanOf_eq (s : State) (p : Port) : s.dropPlanOf p = { s with frame := { s.frame with
    pendingPlan := if s.frame.pendingPlan.map (·.issuer) = some p then none else s.frame.pendingPlan } } := by
  unfold State.dropPlanOf
  split <;> rfl

theorem dropReservationOf_eq (s : State) (p : Port) : s.dropReservationOf p = { s with control := { s.control with
    reservation := if s.control.reservation.map (·.port) = some p then none else s.control.reservation } } := by
  unfold State.dropReservationOf
  split <;> rfl

theorem resetCapture_eq (s : State) (p : Port) : s.resetCapture p = { s with control := { s.control with
    capture := if s.control.capture.map (·.owner) = some p then none else s.control.capture } } := by
  unfold State.resetCapture
  split <;> rfl

theorem resetCapture_portReset (s : State) (p : Port) :
    (((s.setPort p ((s.port p).resetTo s.settings s.nextSeq)).dropPlanOf p).dropReservationOf p).resetCapture p
      = s.portReset p := by
  rw [resetCapture_eq, dropReservationOf_eq, dropPlanOf_eq]
  cases p <;> rfl

theorem exec_portReset {p : Port} {s : State} (h : s.control.mode ≠ .starting) :
    exec (.portReset p) s = .next (((s.portReset p).resetMode p).answer p 0x70 .ok []) := by
  simp only [exec, execPortReset, request_eq h, resetCapture_portReset]

theorem resetMode_of_not_owner {s : State} {p : Port} (h : s.control.owner ≠ some p) : s.resetMode p = s := if_neg h

theorem resetMode_of_running {s : State} {p : Port} (howner : s.control.owner = some p)
    (h : s.control.mode = .holding ∨ s.control.mode = .survey) :
    s.resetMode p = s.backToScanning.raise .modeChanged p.other := by
  rcases h with h | h <;> simp [State.resetMode, howner, h]

theorem resetMode_of_held {s : State} {p : Port} (howner : s.control.owner = some p) (h : s.control.mode = .held) :
    s.resetMode p = (s.backToScanning.raise .modeChanged p.other).resume := by
  simp [State.resetMode, howner, h]

/-- Settles O37: the port's own items first (`State.portReset`), then the mode it owns, by `resetMode`'s cases. -/
theorem portResetReturnsItsPort : Obligations.PortResetReturnsItsPort := by
  intro p s hs hstarting plan reservation capture fresh mine left
  rw [exec_portReset hstarting]
  have howner : (s.portReset p).control.owner = s.control.owner := by cases p <;> rfl
  have hmode : (s.portReset p).control.mode = s.control.mode := by cases p <;> rfl
  refine ⟨fun hnot => ?_, fun hown hrun => ?_, fun hown hheld => ?_⟩
  · rw [resetMode_of_not_owner (by rwa [howner])]
    cases p <;> rfl
  · rw [resetMode_of_running (by rwa [howner]) (by rwa [hmode])]
    cases p <;> rfl
  · rw [resetMode_of_held (by rwa [howner]) (by rwa [hmode])]
    have hraised : ∀ q, ((s.portReset p).backToScanning.raise .modeChanged p.other).port q
        = if q = p.other then { s.port q with events := Event.addTo .modeChanged (s.port q).events }
          else (s.port q).resetTo s.settings s.nextSeq := fun q => by cases p <;> cases q <;> rfl
    have hwaiting : (s.portReset p).waiting = noWaiting := by
      rw [← hs.held hheld]; cases p <;> rfl
    have hres : (s.portReset p).control.reservation = none := by
      have hnone := hs.reservation_eq_none (by simp [hheld])
      cases p <;> simp [State.portReset, hnone]
    obtain ⟨hcontrol, hsearch, hsync, htimer, hevents⟩ :=
      resume_unpending (s := (s.portReset p).backToScanning.raise .modeChanged p.other) (by simpa using hwaiting)
        (by simpa using hres) (by simp)
    refine ⟨_, rfl, ?_, ?_, ?_, ?_, ?_, ?_, ?_, ?_, ?_⟩
    · have hstart := resume_started (s := (s.portReset p).backToScanning)
        (s' := (s.portReset p).backToScanning.raise .modeChanged p.other) (by simp) (by simp) (by simp) (by simp) (by simp)
        (by simp) (fun i => by cases i <;> simp [State.tool]) (by simp) (fun q => by simp [port_raise]; split <;> rfl)
        (fun q e he => by
          rw [raise_isIn _ _ _ _ _ (by simp), beq_of_ofFrameStart he rfl, Bool.and_false, Bool.or_false])
      have hanswered := hstart.answered p 0x70 .ok []
      cases p <;> exact hanswered
    · rw [answer_port_events, hevents, hraised, if_pos rfl]
      simp [isIn_addTo]
    · rw [answer_port_events, hevents, hraised, if_neg (Port.ne_other p)]
      exact (by decide : Event.modeChanged.isIn 0 = false)
    · simp [hcontrol]
    · simp [hcontrol]
    · simp [hcontrol]
    · rw [answer_frame, hsync]
      cases p <;> rfl
    · rw [answer_frame, htimer]
    · rw [answer_search, hsearch]
      cases p <;> rfl

end Sys2Proof.Machine
end


section
/-! SUPPORT. The Track Engine's work at a frame end: the ring, the snapshots, the lists, the events (R54, R94, R103 to R107,
R112). -/

namespace Sys2Proof.Machine

/-! ## The append -/

/-- The records of an append take the Seq values from NextSeq on, in order (R103). -/
theorem numbered_eq (rs : List Sample) (seq : BitVec 16) (n : Nat) : numbered (seq + BitVec.ofNat 16 n) rs
    = (rs.zipIdx n).map fun x => { x.1 with seq := seq + BitVec.ofNat 16 x.2 } := by
  induction rs generalizing n with
  | nil => rfl
  | cons r rest ih =>
    rw [numbered, List.zipIdx_cons, List.map_cons, ← ih, BitVec.ofNat_add, BitVec.add_assoc]
    rfl

/-- An append of records leaves the ring's last records and NextSeq after them, for none too (R103, R104). -/
theorem append_ring (s : State) (rs : List Sample) (h : s.ring.length ≤ 512) :
    (s.append rs).ring = (s.ring ++ numbered s.nextSeq rs).drop ((s.ring ++ numbered s.nextSeq rs).length - 512) := by
  cases rs with
  | nil =>
    have hdrop : s.ring.length - 512 = 0 := by omega
    simp [State.append, numbered, hdrop]
  | cons r rest => simp [State.append, Config.ringCapacity]

theorem append_nextSeq (s : State) (rs : List Sample) : (s.append rs).nextSeq = s.nextSeq + BitVec.ofNat 16 rs.length := by
  cases rs <;> simp [State.append]

/-- An append raises Overrun at each port it overruns (R106). -/
theorem append_isIn (s : State) (rs : List Sample) (e : Event) (q : Port) (h : s.control.mode ≠ .starting) :
    e.isIn ((s.append rs).port q).events
      = (e.isIn (s.port q).events || (!rs.isEmpty && s.overruns q rs.length && Event.overrun == e)) := by
  unfold State.append
  split
  · next hempty => simp [hempty]
  · next hsome =>
    dsimp only
    rw [raiseIf_isIn _ _ _ _ _ _ (by simpa using h), raiseIf_isIn _ _ _ _ _ _ (by simpa using h)]
    cases q <;> simp [hsome, PortState.overrun, show (Port.d == Port.s) = false from rfl,
      show (Port.s == Port.d) = false from rfl] <;> rfl

/-! ## The Track Engine -/

/-- The records that a frame end writes (R54). -/
def State.frameRecords (s : State) : List Sample := samplesOf s.stamp (s.toolEnd .t0) (s.toolEnd .t1)

theorem trackEngine_ring {s : State} (h : RingOk s) : s.trackEngine.ring
    = (s.ring ++ numbered s.nextSeq s.frameRecords).drop ((s.ring ++ numbered s.nextSeq s.frameRecords).length - 512) := by
  simp only [State.trackEngine, State.waitingTest, raiseIf_ring, raiseBothIf_ring]
  exact append_ring _ _ h.capacity

theorem trackEngine_nextSeq (s : State) :
    s.trackEngine.nextSeq = s.nextSeq + BitVec.ofNat 16 s.frameRecords.length := by
  simp only [State.trackEngine, State.waitingTest, raiseIf_nextSeq, raiseBothIf_nextSeq]
  exact append_nextSeq _ _

theorem trackEngine_snap0 (s : State) : s.trackEngine.snap0
    = snapshotOf (s.toolEnd .t0).tool s.snap0 (seqOf0 s.nextSeq (s.toolEnd .t0)) s.stamp := by
  simp [State.trackEngine]

theorem trackEngine_snap1 (s : State) : s.trackEngine.snap1
    = snapshotOf (s.toolEnd .t1).tool s.snap1 (seqOf1 s.nextSeq (s.toolEnd .t0) (s.toolEnd .t1)) s.stamp := by
  simp [State.trackEngine]

theorem trackEngine_port_list0 (s : State) (q : Port) : (s.trackEngine.port q).list0
    = (s.toolEnd .t0).change.elim (s.port q).list0 (enterChange (s.port q).list0) := by
  simp only [State.trackEngine, State.waitingTest, raiseIf_port_list0, raiseBothIf_port_list0]
  refine (append_port_list0 ..).trans ?_
  cases q <;> cases (s.toolEnd .t0).change <;> cases (s.toolEnd .t1).change <;> rfl

theorem trackEngine_port_list1 (s : State) (q : Port) : (s.trackEngine.port q).list1
    = (s.toolEnd .t1).change.elim (s.port q).list1 (enterChange (s.port q).list1) := by
  simp only [State.trackEngine, State.waitingTest, raiseIf_port_list1, raiseBothIf_port_list1]
  refine (append_port_list1 ..).trans ?_
  cases q <;> cases (s.toolEnd .t0).change <;> cases (s.toolEnd .t1).change <;> rfl

theorem enterChange_eq (l : List (BitVec 4)) (c : BitVec 4) : enterChange l c = l.take 1 ++ [c] := by
  cases l <;> rfl

theorem raiseBothIf_isIn (s : State) (c : Bool) (e e' : Event) (q : Port) (h : s.control.mode ≠ .starting) :
    e'.isIn ((s.raiseBothIf c e).port q).events = (e'.isIn (s.port q).events || (c && e == e')) := by
  cases c <;> simp [State.raiseBothIf, raiseBoth_isIn _ _ _ _ h]

/-- The state of a frame end with both tools' records and snapshots written, the append done (R47, R93, R103, R112). -/
def State.toolsEnded (s : State) : State :=
  { ((s.enterCode .t0 (s.toolEnd .t0).change).enterCode .t1 (s.toolEnd .t1).change).append s.frameRecords with
    tool0 := (s.toolEnd .t0).record
    tool1 := (s.toolEnd .t1).record
    snap0 := snapshotOf (s.toolEnd .t0).tool s.snap0 (seqOf0 s.nextSeq (s.toolEnd .t0)) s.stamp
    snap1 := snapshotOf (s.toolEnd .t1).tool s.snap1 (seqOf1 s.nextSeq (s.toolEnd .t0) (s.toolEnd .t1)) s.stamp }

/-- The same with the tools' events raised (R54, R56, R99). -/
def State.toolsTold (s : State) : State :=
  ((s.toolsEnded.raiseBothIf ((s.toolEnd .t0).wrote .enter || (s.toolEnd .t1).wrote .enter) .toolEnter).raiseBothIf
    ((s.toolEnd .t0).wrote .leave || (s.toolEnd .t1).wrote .leave) .toolLeave).raiseBothIf
    ((s.toolEnd .t0).known || (s.toolEnd .t1).known) .identityKnown

theorem trackEngine_eq (s : State) : s.trackEngine = (s.toolsTold.waitingTest .s).waitingTest .d := rfl

theorem toolsEnded_isIn (s : State) (e : Event) (q : Port) (h : s.control.mode ≠ .starting) :
    e.isIn (s.toolsEnded.port q).events = (e.isIn (s.port q).events
      || (!s.frameRecords.isEmpty && s.overruns q s.frameRecords.length && Event.overrun == e)) := by
  have hport : ∀ p, s.toolsEnded.port p = (((s.enterCode .t0 (s.toolEnd .t0).change).enterCode .t1
      (s.toolEnd .t1).change).append s.frameRecords).port p := by intro p; cases p <;> rfl
  have hoverruns : ∀ i c (u : State), (u.enterCode i c).overruns q s.frameRecords.length
      = u.overruns q s.frameRecords.length := fun i c u => decide_eq_decide.2 (by
    simp only [State.backlog, enterCode_nextSeq, enterCode_port_cursor])
  rw [hport, append_isIn _ _ _ _ (by simpa using h), hoverruns, hoverruns, enterCode_port_events, enterCode_port_events]

theorem waitingTest_backlog (s : State) (p q : Port) : (s.waitingTest p).backlog q = s.backlog q := by
  simp only [State.waitingTest, State.backlog, raiseIf_nextSeq, raiseIf_port_cursor]

/-- The SamplesWaiting test at both ports (R107). -/
theorem waitingTest_isIn (s : State) (e : Event) (q : Port) (h : s.control.mode ≠ .starting) :
    e.isIn (((s.waitingTest .s).waitingTest .d).port q).events = (e.isIn (s.port q).events
      || (decide ((s.port q).watermark ≤ ((s.waitingTest .s).waitingTest .d).backlog q) && Event.samplesWaiting == e)) := by
  have hs : ∀ p, (s.waitingTest p).control.mode ≠ .starting := fun p => by simpa [State.waitingTest] using h
  rw [waitingTest_backlog, waitingTest_backlog, State.waitingTest, raiseIf_isIn _ _ _ _ _ _ (hs .s), waitingTest_backlog,
    State.waitingTest, raiseIf_isIn _ _ _ _ _ _ h]
  cases q <;> simp [show (Port.d == Port.s) = false from rfl, show (Port.s == Port.d) = false from rfl]

/-- What the Track Engine raises at a port (R54, R56, R99, R106, R107). -/
theorem trackEngine_isIn (s : State) (e : Event) (q : Port) (h : s.control.mode ≠ .starting) :
    e.isIn (s.trackEngine.port q).events = (e.isIn (s.port q).events
      || (!s.frameRecords.isEmpty && s.overruns q s.frameRecords.length && Event.overrun == e)
      || (((s.toolEnd .t0).wrote .enter || (s.toolEnd .t1).wrote .enter) && Event.toolEnter == e)
      || (((s.toolEnd .t0).wrote .leave || (s.toolEnd .t1).wrote .leave) && Event.toolLeave == e)
      || (((s.toolEnd .t0).known || (s.toolEnd .t1).known) && Event.identityKnown == e)
      || (decide ((s.port q).watermark ≤ s.trackEngine.backlog q) && Event.samplesWaiting == e)) := by
  have hended : s.toolsEnded.control.mode ≠ .starting := by simpa [State.toolsEnded] using h
  have htold : s.toolsTold.control.mode ≠ .starting := by simpa [State.toolsTold] using hended
  have hwatermark : (s.toolsTold.port q).watermark = (s.port q).watermark := by
    rw [← trackEngine_port_watermark (s := s), trackEngine_eq]
    simp [State.waitingTest]
  rw [trackEngine_eq, waitingTest_isIn _ _ _ htold, hwatermark, State.toolsTold,
    raiseBothIf_isIn _ _ _ _ _ (by simpa using hended), raiseBothIf_isIn _ _ _ _ _ (by simpa using hended), raiseBothIf_isIn _ _ _ _ _ hended, toolsEnded_isIn _ _ _ h]

end Sys2Proof.Machine
end


section
/-! SUPPORT. The end of a frame by mode: SCANNING, HOLDING, SURVEY (R11, R150, R156, R157). -/

namespace Sys2Proof.Machine

/-! ## The cases of a frame end -/

theorem frameEnd_of_holding {s : State} (h : s.control.mode = .holding) :
    s.frameEnd = s.trackEngine.enterTail.enterHeld := by
  simp [State.frameEnd, h]

theorem frameEnd_of_survey {s : State} (h : s.control.mode = .survey) :
    s.frameEnd = s.trackEngine.enterTail.surveyFrameEnd := by
  simp [State.frameEnd, h]

theorem frameEnd_of_scanning {s : State} (hholding : s.control.mode ≠ .holding) (hsurvey : s.control.mode ≠ .survey) :
    s.frameEnd = s.trackEngine.enterTail := by
  unfold State.frameEnd
  simp only [enterTail_control, trackEngine_control]
  split <;> simp_all

/-- Whatever a frame end does after the Track Engine's work and the entry to the TAIL holds of every frame end when it holds
of the entry to HELD and of the survey's own step. -/
theorem frameEnd_cases {P : State → Prop} (s : State) (htail : P s.trackEngine.enterTail)
    (hheld : s.control.mode = .holding → P s.trackEngine.enterTail.enterHeld)
    (hsurvey : s.control.mode = .survey → P s.trackEngine.enterTail.surveyFrameEnd) : P s.frameEnd := by
  by_cases hholding : s.control.mode = .holding
  · rw [frameEnd_of_holding hholding]
    exact hheld hholding
  by_cases hsurv : s.control.mode = .survey
  · rw [frameEnd_of_survey hsurv]
    exact hsurvey hsurv
  rw [frameEnd_of_scanning hholding hsurv]
  exact htail

/-! ## What the Track Engine has written stays -/

@[simp] theorem frameEnd_ring (s : State) : s.frameEnd.ring = s.trackEngine.ring := by
  refine frameEnd_cases (P := fun u => u.ring = s.trackEngine.ring) s ?_ ?_ ?_ <;> simp

@[simp] theorem frameEnd_nextSeq (s : State) : s.frameEnd.nextSeq = s.trackEngine.nextSeq := by
  refine frameEnd_cases (P := fun u => u.nextSeq = s.trackEngine.nextSeq) s ?_ ?_ ?_ <;> simp

@[simp] theorem frameEnd_snap0 (s : State) : s.frameEnd.snap0 = s.trackEngine.snap0 := by
  refine frameEnd_cases (P := fun u => u.snap0 = s.trackEngine.snap0) s ?_ ?_ ?_ <;> simp

@[simp] theorem frameEnd_snap1 (s : State) : s.frameEnd.snap1 = s.trackEngine.snap1 := by
  refine frameEnd_cases (P := fun u => u.snap1 = s.trackEngine.snap1) s ?_ ?_ ?_ <;> simp

@[simp] theorem frameEnd_port_cursor (s : State) (q : Port) :
    (s.frameEnd.port q).cursor = (s.trackEngine.port q).cursor := by
  refine frameEnd_cases (P := fun u => (u.port q).cursor = (s.trackEngine.port q).cursor) s ?_ ?_ ?_ <;> simp

@[simp] theorem frameEnd_port_list0 (s : State) (q : Port) : (s.frameEnd.port q).list0 = (s.trackEngine.port q).list0 := by
  refine frameEnd_cases (P := fun u => (u.port q).list0 = (s.trackEngine.port q).list0) s ?_ ?_ ?_ <;> simp

@[simp] theorem frameEnd_port_list1 (s : State) (q : Port) : (s.frameEnd.port q).list1 = (s.trackEngine.port q).list1 := by
  refine frameEnd_cases (P := fun u => (u.port q).list1 = (s.trackEngine.port q).list1) s ?_ ?_ ?_ <;> simp

theorem frameEnd_backlog (s : State) (q : Port) : s.frameEnd.backlog q = s.trackEngine.backlog q := by
  simp only [State.backlog, frameEnd_nextSeq, frameEnd_port_cursor]

@[simp] theorem enterTail_lastFrame (s : State) : s.enterTail.frame.lastFrame = some s.stamp := rfl
@[simp] theorem enterTail_lastOutcomes (s : State) : s.enterTail.frame.lastOutcomes = endOutcomes s.frame.outcomes := rfl
@[simp] theorem trackEngine_stamp (s : State) : s.trackEngine.stamp = s.stamp := by simp [State.stamp]

@[simp] theorem frameEnd_frame_lastFrame (s : State) : s.frameEnd.frame.lastFrame = some s.stamp := by
  refine frameEnd_cases (P := fun u => u.frame.lastFrame = some s.stamp) s ?_ ?_ ?_ <;> simp

@[simp] theorem frameEnd_frame_lastOutcomes (s : State) : s.frameEnd.frame.lastOutcomes = endOutcomes s.frame.outcomes := by
  refine frameEnd_cases (P := fun u => u.frame.lastOutcomes = endOutcomes s.frame.outcomes) s ?_ ?_ ?_ <;> simp

@[simp] theorem frameEnd_frame_run (s : State) : s.frameEnd.frame.run = .none := by
  refine frameEnd_cases (P := fun u => u.frame.run = .none) s ?_ ?_ ?_ <;> simp

theorem getElem_endOutcomes (v : Vector (Option SlotOutcome) 8) (k : Fin 8) : (endOutcomes v)[k] = v[k].getD .idle := by
  fin_cases k <;> rfl

/-! ## The tools after a frame end -/

/-- At the entry to HELD every tool leaves (R57). -/
theorem toolEnd_record_of_holding {s : State} (h : s.control.mode = .holding) (i : ToolId) :
    (s.toolEnd i).record = vacantTool := by
  have henters : (s.trackEnv i).entersHeld = true := by simp [State.trackEnv, h]
  unfold State.toolEnd toolFrameEnd
  split
  · rfl
  · rw [if_pos (.inr henters)]
    unfold departure ToolEnd.record
    split <;> simp [vacantTool]

/-- A release mark changes nothing of a VACANT record (R37). -/
theorem marked_vacant {old new : Vector Profile 4} {t u : Tool} (h : Marked old new t u) (ht : t = vacantTool) :
    u = vacantTool := by
  rw [h, ht]
  simp [vacantTool]

theorem enterHeld_tools (s : State) :
    s.enterHeld.tool0 = s.applyWaiting.tool0 ∧ s.enterHeld.tool1 = s.applyWaiting.tool1 := by
  simp [State.enterHeld]

theorem frameEnd_tools (s : State) :
    s.frameEnd.tool0 = (s.toolEnd .t0).record ∧ s.frameEnd.tool1 = (s.toolEnd .t1).record := by
  refine frameEnd_cases (P := fun u => u.tool0 = (s.toolEnd .t0).record ∧ u.tool1 = (s.toolEnd .t1).record) s ?_ ?_ ?_
  · exact ⟨trackEngine_tool0 s, trackEngine_tool1 s⟩
  · intro hmode
    have hvacant := toolEnd_record_of_holding hmode
    obtain ⟨hmark0, hmark1⟩ := applyWaiting_tools s.trackEngine.enterTail
    obtain ⟨htool0, htool1⟩ := enterHeld_tools s.trackEngine.enterTail
    rw [htool0, htool1, hvacant, hvacant]
    exact ⟨marked_vacant hmark0 ((trackEngine_tool0 s).trans (hvacant .t0)),
      marked_vacant hmark1 ((trackEngine_tool1 s).trans (hvacant .t1))⟩
  · intro _
    simpa using ⟨trackEngine_tool0 s, trackEngine_tool1 s⟩

/-! ## The events of a frame end -/

theorem changeMode_isIn (s : State) {mode : Mode} (hmode : mode ≠ .starting) (owner : Option Port) (e : Event) (q : Port) :
    e.isIn ((s.changeMode mode owner).port q).events = (e.isIn (s.port q).events || Event.modeChanged == e) := by
  rw [State.changeMode, raiseBoth_isIn _ _ _ _ hmode]
  cases q <;> rfl

theorem completeHold_isIn (s : State) (e : Event) (q : Port) (h : s.control.mode ≠ .starting) :
    e.isIn (s.completeHold.port q).events = (e.isIn (s.port q).events
      || (s.control.owner == some q && (s.port q).slot == .running .holdScan && Event.taskDone == e)) := by
  unfold State.completeHold
  split
  · next p hp =>
    rw [completeTask_isIn _ _ _ _ _ _ h, hp]
    by_cases hq : q = p
    · simp [hq]
    · simp [beq_eq_false_iff_ne.2 hq, beq_eq_false_iff_ne.2 (Ne.symm hq)]
  · next hp => simp [hp]

/-- What the entry to HELD raises at a port (R127, R143, R150). -/
theorem enterHeld_isIn (s : State) (e : Event) (q : Port) (h : s.control.mode ≠ .starting) :
    e.isIn (s.enterHeld.port q).events = (e.isIn (s.port q).events
      || (s.waiting.anyBy q.other && Event.settingsChanged == e) || Event.modeChanged == e
      || (s.control.owner == some q && (s.port q).slot == .running .holdScan && Event.taskDone == e)) := by
  rw [State.enterHeld, startAutoResume_port, completeHold_isIn _ _ _ (by simp), changeMode_isIn _ (by simp)]
  simp [applyWaiting_isIn _ _ _ h]

/-- What the end of a survey raises at a port (R127, R156, R157). -/
theorem endSurvey_isIn (s : State) (owner : Port) (r : ResultCode) (e : Event) (q : Port) :
    e.isIn ((s.endSurvey owner r).port q).events = (e.isIn (s.port q).events || Event.modeChanged == e
      || (q == owner && (s.port owner).slot == .running .coilSurvey && Event.taskDone == e)) := by
  rw [State.endSurvey, completeTask_isIn _ _ _ _ _ _ (by simp), raiseBoth_isIn _ _ _ _ (by simp)]
  simp

/-- Of the other events a frame end raises what its Track Engine raises. -/
theorem frameEnd_isIn (s : State) (e : Event) (q : Port) (h : s.control.mode ≠ .starting)
    (he : (Event.settingsChanged == e) = false ∧ (Event.modeChanged == e) = false ∧ (Event.taskDone == e) = false) :
    e.isIn (s.frameEnd.port q).events = e.isIn (s.trackEngine.port q).events := by
  obtain ⟨hsettings, hmode, htask⟩ := he
  refine frameEnd_cases (P := fun u => e.isIn (u.port q).events = e.isIn (s.trackEngine.port q).events) s ?_ ?_ ?_
  · simp
  · intro _
    rw [enterHeld_isIn _ _ _ (by simpa using h)]
    simp [hsettings, hmode, htask]
  · intro _
    unfold State.surveyFrameEnd
    split
    · split
      · rw [endSurvey_isIn]
        cases q <;> simp [hmode, htask] <;> rfl
      · split
        · rw [endSurvey_isIn]
          simp [hmode, htask]
        · simp
    · simp

end Sys2Proof.Machine
end


section
/-! SUPPORT. What each tool's frame end reads, and the end of a frame by mode (R47, R150, R156, R157). -/

namespace Sys2Proof.Machine

theorem functionOf_eq_track {r : SlotRecord} : functionOf r = some .track ↔ r.function = 2 := by
  unfold functionOf
  split
  · next h => simp [h]
  split
  · next h => simp [h]
  split
  · next h => simp [h]
  · next h =>
    refine iff_of_false ?_ h
    repeat' split
    all_goals simp

theorem slotTool_eq_iff {r : SlotRecord} {i : ToolId} : slotTool r = i ↔ (r.tool = 0 ↔ i = .t0) := by
  unfold slotTool
  by_cases h : r.tool = 0 <;> cases i <;> simp [h]

/-- No TRACK slot of the tool ended otherwise than NOT_NEEDED (R47). -/
theorem trackUnneeded_iff (f : Frame) (i : ToolId) : f.trackUnneeded i = true ↔
    ∀ k : Fin 8, f.activePlan[k].function = 2 → (f.activePlan[k].tool = 0 ↔ i = .t0) →
      f.outcomes[k] = some .notNeeded := by
  simp only [Frame.trackUnneeded, List.all_eq_true, List.mem_finRange, true_implies, Bool.or_eq_true, Bool.not_eq_true',
    Bool.and_eq_false_iff, beq_eq_false_iff_ne, beq_iff_eq, ne_eq, functionOf_eq_track, slotTool_eq_iff]
  refine forall_congr' fun k => ?_
  tauto

theorem event_beq (e e' : Event) : (e == e') = decide (e = e') := by
  rw [Bool.eq_iff_iff]
  simp

theorem trackEngine_toolEnter {s : State} (h : s.control.mode ≠ .starting) (q : Port) :
    Event.toolEnter.isIn (s.trackEngine.port q).events
      = (Event.toolEnter.isIn (s.port q).events || (s.toolEnd .t0).wrote .enter || (s.toolEnd .t1).wrote .enter) := by
  rw [trackEngine_isIn _ _ _ h]
  simp [event_beq, Bool.or_assoc]

theorem trackEngine_toolLeave {s : State} (h : s.control.mode ≠ .starting) (q : Port) :
    Event.toolLeave.isIn (s.trackEngine.port q).events
      = (Event.toolLeave.isIn (s.port q).events || (s.toolEnd .t0).wrote .leave || (s.toolEnd .t1).wrote .leave) := by
  rw [trackEngine_isIn _ _ _ h]
  simp [event_beq, Bool.or_assoc]

theorem trackEngine_identityKnown {s : State} (h : s.control.mode ≠ .starting) (q : Port) :
    Event.identityKnown.isIn (s.trackEngine.port q).events
      = (Event.identityKnown.isIn (s.port q).events || (s.toolEnd .t0).known || (s.toolEnd .t1).known) := by
  rw [trackEngine_isIn _ _ _ h]
  simp [event_beq, Bool.or_assoc]

theorem trackEngine_samplesWaiting {s : State} (h : s.control.mode ≠ .starting) (q : Port) :
    Event.samplesWaiting.isIn (s.trackEngine.port q).events
      = (Event.samplesWaiting.isIn (s.port q).events || decide ((s.port q).watermark ≤ s.trackEngine.backlog q)) := by
  rw [trackEngine_isIn _ _ _ h]
  simp [event_beq]

/-- An append of no record overruns no port (R104 to R106). -/
theorem trackEngine_overrun {s : State} (hs : RingOk s) (h : s.control.mode ≠ .starting) (q : Port) :
    Event.overrun.isIn (s.trackEngine.port q).events
      = (Event.overrun.isIn (s.port q).events || decide (512 < s.backlog q + s.frameRecords.length)) := by
  have hbacklog : s.backlog q ≤ 512 := (hs.backlog q).trans hs.capacity
  rw [trackEngine_isIn _ _ _ h]
  cases hrecords : s.frameRecords with
  | nil => simp [event_beq, hbacklog]
  | cons r rest =>
    have hoverruns : s.overruns q (r :: rest).length = decide (512 < s.backlog q + (r :: rest).length) := rfl
    rw [hoverruns]
    simp [event_beq]

theorem snapshotOf_seqOf0 (u : Tool) (old : Snapshot) (next stamp : BitVec 16) (e0 : ToolEnd) :
    snapshotOf u old (seqOf0 next e0) stamp = { snapshotOf u old none stamp with
      lastSeq := if e0.draft.isSome then some next else old.lastSeq } := by
  cases h : e0.draft <;> simp [snapshotOf, seqOf0, h]

theorem snapshotOf_seqOf1 (u : Tool) (old : Snapshot) (next stamp : BitVec 16) (e0 e1 : ToolEnd) :
    snapshotOf u old (seqOf1 next e0 e1) stamp = { snapshotOf u old none stamp with
      lastSeq := if e1.draft.isSome then some (if e0.draft.isSome then next + 1 else next) else old.lastSeq } := by
  cases h : e1.draft <;> simp [snapshotOf, seqOf1, h]

/-- The frame end that enters HELD (R17, R142, R150). -/
theorem frameEnd_holding {s : State} (hs : TasksOk s) {p : Port} (hmode : s.control.mode = .holding)
    (howner : s.control.owner = some p) :
    s.frameEnd.control.owner = some p ∧ s.frameEnd.settings = s.settings.applied s.waiting
      ∧ s.frameEnd.waiting = noWaiting ∧ (s.frameEnd.port p).slot = .completed .holdScan .ok
      ∧ Event.taskDone.isIn (s.frameEnd.port p).events = true
      ∧ (∀ q, Event.modeChanged.isIn (s.frameEnd.port q).events = true)
      ∧ s.frameEnd.control.autoResume = (if s.control.resumeDelay = 0 then none else some 0) := by
  have hslot : (s.port p).slot = .running .holdScan := (hs.holdScan p).2 ⟨hmode, howner⟩
  have hnot : s.trackEngine.enterTail.control.mode ≠ .starting := by simp [hmode]
  rw [frameEnd_of_holding hmode]
  refine ⟨by simp [howner], by simp [State.enterHeld], by simp [State.enterHeld], ?_, ?_, fun q => ?_, ?_⟩
  · simp [State.enterHeld, State.completeHold, howner, completeTask_slot, hslot]
  · rw [enterHeld_isIn _ _ _ hnot]
    simp [howner, hslot]
  · rw [enterHeld_isIn _ _ _ hnot]
    simp
  · simp [State.enterHeld, State.startAutoResume]

/-- A survey that ends, by completion or by the limit (R156, R157). -/
theorem endSurvey_spec {s : State} {p : Port} (hslot : (s.port p).slot = .running .coilSurvey) (r : ResultCode) :
    (s.endSurvey p r).control.mode = .scanning ∧ (s.endSurvey p r).control.owner = none
      ∧ (s.endSurvey p r).control.survey = none ∧ ((s.endSurvey p r).port p).slot = .completed .coilSurvey r
      ∧ Event.taskDone.isIn ((s.endSurvey p r).port p).events = true
      ∧ ∀ q, Event.modeChanged.isIn ((s.endSurvey p r).port q).events = true := by
  refine ⟨by simp [State.endSurvey], by simp [State.endSurvey], by simp [State.endSurvey], ?_, ?_, fun q => ?_⟩
  · simp [State.endSurvey, completeTask_slot, hslot]
  · rw [endSurvey_isIn]
    simp [hslot]
  · rw [endSurvey_isIn]
    simp

/-! ## A survey's own step (R156, R157) -/

/-- The state with the capture of a completed survey in the Capture Buffer (R156, R158). -/
def State.captured (s : State) (v : Survey) (owner : Port) : State :=
  { s with control := { s.control with capture := some (v.capture s.settings s.stamp owner) } }

@[simp] theorem captured_port (s : State) (v : Survey) (p q : Port) : (s.captured v p).port q = s.port q := by
  cases q <;> rfl

theorem surveyFrameEnd_of_done {s : State} {v : Survey} {p : Port} (hv : s.control.survey = some v)
    (howner : s.control.owner = some p) (hx : v.xDone = true) (hy : v.yDone = true) :
    s.surveyFrameEnd = (s.captured v p).endSurvey p .ok := by
  simp [State.surveyFrameEnd, State.captured, hv, howner, hx, hy]

theorem surveyFrameEnd_of_late {s : State} {v : Survey} {p : Port} (hv : s.control.survey = some v)
    (howner : s.control.owner = some p) (hopen : v.xDone = false ∨ v.yDone = false) (hlimit : 64 ≤ v.frames) :
    s.surveyFrameEnd = s.endSurvey p .timedOut := by
  rcases hopen with h | h <;> simp [State.surveyFrameEnd, Config.surveyFrameLimit, hv, howner, h, hlimit]

theorem surveyFrameEnd_of_open {s : State} {v : Survey} {p : Port} (hv : s.control.survey = some v)
    (howner : s.control.owner = some p) (hopen : v.xDone = false ∨ v.yDone = false) (hlimit : v.frames < 64) :
    s.surveyFrameEnd = s := by
  rcases hopen with h | h <;> simp [State.surveyFrameEnd, Config.surveyFrameLimit, hv, howner, h, Nat.not_le.2 hlimit]

/-- Settles O48: the Track Engine's part by `trackEngine_*`, kept by every mode's own step (`frameEnd_cases`), then each
mode. -/
theorem frameEndByMode : Obligations.FrameEndByMode := by
  intro s hs htasks t stamp
  refine ⟨fun k o => ?_, ?_, fun k => ?_, ?_, ?_, ?_, fun i => ?_, fun hring hstarting => ?_, fun hmode => ?_,
    fun p hmode howner => ?_, fun p v hmode howner hv => ?_⟩
  · exact ⟨fun h => if_pos h, fun h => if_neg (by simpa using h)⟩
  · exact frameEnd_frame_lastFrame s
  · exact (congrArg (·[k]) (frameEnd_frame_lastOutcomes s)).trans (getElem_endOutcomes _ k)
  · exact frameEnd_frame_run s
  · exact frameEnd_frame_count s
  · exact frameEnd_frame_activePlan s
  · exact ⟨rfl, rfl, rfl, by cases i <;> rfl, by simp [State.trackEnv], trackUnneeded_iff s.frame i⟩
  · intro e0 e1 record rs joined wrote after
    have hjoined : joined = s.ring ++ numbered s.nextSeq s.frameRecords := by
      have hnumbered := numbered_eq s.frameRecords s.nextSeq 0
      rw [BitVec.add_zero] at hnumbered
      rw [hnumbered]
      rfl
    have hevent : ∀ (e : Event) (p : Port), (Event.settingsChanged == e) = false ∧ (Event.modeChanged == e) = false
        ∧ (Event.taskDone == e) = false → e.isIn (t.port p).events = e.isIn (s.trackEngine.port p).events :=
      fun e p => frameEnd_isIn s e p hstarting
    refine ⟨(frameEnd_tools s).1, (frameEnd_tools s).2, ?_, ?_, ?_, ?_, fun p => ⟨fun h => ?_, fun h => ?_, fun c h => ?_,
      fun c h => ?_, ?_, ?_, ?_, ?_, ?_⟩⟩
    · rw [hjoined]
      exact (frameEnd_ring s).trans (trackEngine_ring hring)
    · exact (frameEnd_nextSeq s).trans (trackEngine_nextSeq s)
    · exact (frameEnd_snap0 s).trans ((trackEngine_snap0 s).trans (snapshotOf_seqOf0 ..))
    · exact (frameEnd_snap1 s).trans ((trackEngine_snap1 s).trans (snapshotOf_seqOf1 ..))
    · have hchange : (s.toolEnd .t0).change = none := h
      rw [frameEnd_port_list0, trackEngine_port_list0, hchange, Option.elim_none]
    · have hchange : (s.toolEnd .t1).change = none := h
      rw [frameEnd_port_list1, trackEngine_port_list1, hchange, Option.elim_none]
    · have hchange : (s.toolEnd .t0).change = some c := h
      rw [frameEnd_port_list0, trackEngine_port_list0, hchange, Option.elim_some, enterChange_eq]
    · have hchange : (s.toolEnd .t1).change = some c := h
      rw [frameEnd_port_list1, trackEngine_port_list1, hchange, Option.elim_some, enterChange_eq]
    · exact (hevent _ _ (by decide)).trans (trackEngine_toolEnter hstarting p)
    · exact (hevent _ _ (by decide)).trans (trackEngine_toolLeave hstarting p)
    · exact (hevent _ _ (by decide)).trans (trackEngine_identityKnown hstarting p)
    · rw [hevent _ _ (by decide), trackEngine_samplesWaiting hstarting, ← frameEnd_backlog]
    · exact (hevent _ _ (by decide)).trans (trackEngine_overrun hring hstarting p)
  · have ht : t = s.trackEngine.enterTail := frameEnd_of_scanning (by simp [hmode]) (by simp [hmode])
    rw [ht]
    simp
  · obtain ⟨howned, hsettings, hwaiting, hslot, hdone, hchanged, hauto⟩ := frameEnd_holding htasks hmode howner
    refine ⟨(frameEnd_held s (by simp [hmode])).2 hmode, howned, ?_, ?_, hsettings, hwaiting, fun i => ?_, hslot,
      hdone, hchanged, hauto⟩
    · exact (frameEnd_frame_phase s).trans (if_pos hmode)
    · simp [t, frameEnd_of_holding hmode]
    · have hrecord := toolEnd_record_of_holding hmode
      cases i
      · exact (frameEnd_tools s).1.trans (hrecord .t0)
      · exact (frameEnd_tools s).2.trans (hrecord .t1)
  · have hslot : (s.port p).slot = .running .coilSurvey := (htasks.coilSurvey p).2 (.inr ⟨hmode, howner⟩)
    have hcapture : s.control.capture = none := hs.unlocked (by simp [hv])
    have ht : t = s.trackEngine.enterTail.surveyFrameEnd := frameEnd_of_survey hmode
    have hslot' : (s.trackEngine.enterTail.port p).slot = .running .coilSurvey := by simpa using hslot
    refine ⟨fun hx hy => ?_, fun hopen hlimit => ?_, fun hopen hlimit => ?_⟩
    · have hend := surveyFrameEnd_of_done (s := s.trackEngine.enterTail) (by simpa using hv) (by simpa using howner) hx hy
      rw [ht, hend]
      exact ⟨endSurvey_spec (by simpa using hslot') .ok, by simp [State.captured, Survey.capture, State.stamp, stamp]⟩
    · have hend := surveyFrameEnd_of_late (s := s.trackEngine.enterTail) (by simpa using hv) (by simpa using howner)
        hopen hlimit
      rw [ht, hend]
      exact ⟨endSurvey_spec hslot' .timedOut, by simpa using hcapture⟩
    · have hend := surveyFrameEnd_of_open (s := s.trackEngine.enterTail) (by simpa using hv) (by simpa using howner)
        hopen hlimit
      rw [ht, hend]
      simp

end Sys2Proof.Machine
end


section
/-! SUPPORT. When a slot of the running frame has begun (R15, R19). -/

namespace Sys2Proof.Machine

theorem slotsOrdered_pairwise : ∀ {l : List SlotRecord}, slotsOrdered l = true →
    l.Pairwise fun a b => a.start.toNat < b.start.toNat
  | [], _ => List.Pairwise.nil
  | [a], _ => List.pairwise_singleton _ a
  | a :: b :: rest, h => by
    simp only [slotsOrdered, Bool.and_eq_true, decide_eq_true_eq] at h
    obtain ⟨⟨hlt, -⟩, hrest⟩ := h
    have hpairs := slotsOrdered_pairwise hrest
    refine List.pairwise_cons.2 ⟨fun c hc => ?_, hpairs⟩
    rcases List.mem_cons.1 hc with rfl | hmem
    · exact hlt
    · exact hlt.trans ((List.pairwise_cons.1 hpairs).1 c hmem)

/-- The Starts of a valid plan's non-IDLE slots rise with their index (R19). -/
theorem start_lt_of_planValid {framePeriod : Nat} {p : Plan} (h : planValid framePeriod p = true) {i k : Fin 8}
    (hik : i < k) (hi : p[i].function ≠ 0) (hk : p[k].function ≠ 0) : p[i].start.toNat < p[k].start.toNat := by
  simp only [planValid, Bool.and_eq_true] at h
  obtain ⟨⟨-, hordered⟩, -⟩ := h
  have hpairs := List.pairwise_filter.1 (slotsOrdered_pairwise hordered)
  rw [List.pairwise_iff_getElem] at hpairs
  exact hpairs i.val k.val (by simp) (by simp) hik (by simpa [isIdle] using hi) (by simpa [isIdle] using hk)

/-- With no survey window the frame's first non-IDLE slot tells whether one has begun. -/
theorem slotBegun_first {f : Frame} (hwindow : f.window = none) : f.slotBegun = true ↔
    ∃ k : Fin 8, k.val = nextSlot f.activePlan 0 ∧ (k.val < f.next ∨ f.activePlan[k].start.toNat ≤ f.timer) := by
  unfold Frame.slotBegun
  rw [hwindow]
  dsimp only
  split
  · next hlt =>
    rw [Bool.or_eq_true, decide_eq_true_eq, decide_eq_true_eq]
    refine ⟨fun h => ⟨⟨_, hlt⟩, rfl, h⟩, ?_⟩
    rintro ⟨⟨n, hn⟩, rfl, h⟩
    exact h
  · next hge =>
    refine iff_of_false (by simp) ?_
    rintro ⟨k, hk, -⟩
    exact hge (hk ▸ k.isLt)

/-- A slot of a valid plan has begun when its SLOT_BEGIN is taken or its Start reached (R15). -/
theorem slotBegun_iff {f : Frame} {framePeriod : Nat} (hwindow : f.window = none)
    (h : planValid framePeriod f.activePlan = true) : f.slotBegun = true ↔
      ∃ k : Fin 8, f.activePlan[k].function ≠ 0 ∧ (k.val < f.next ∨ f.activePlan[k].start.toNat ≤ f.timer) := by
  obtain ⟨-, hspec⟩ := nextSlot_spec f.activePlan 0
  rw [slotBegun_first hwindow]
  refine ⟨fun ⟨k, hk, hbegun⟩ => ⟨k, ((hspec k).2 hk).2, hbegun⟩, fun ⟨k, hactive, hbegun⟩ => ?_⟩
  have hle : nextSlot f.activePlan 0 ≤ k.val := by
    by_contra hlt
    exact hactive ((hspec k).1 (Nat.zero_le _) (Nat.lt_of_not_le hlt))
  have hlt : nextSlot f.activePlan 0 < 8 := hle.trans_lt k.isLt
  refine ⟨⟨_, hlt⟩, rfl, ?_⟩
  have hfirst := ((hspec ⟨_, hlt⟩).2 rfl).2
  rcases hle.eq_or_lt with heq | hbefore
  · rw [show (⟨_, hlt⟩ : Fin 8) = k from Fin.ext heq]
    exact hbegun
  · have hstart := start_lt_of_planValid h (i := ⟨_, hlt⟩) (k := k) hbefore hfirst hactive
    rcases hbegun with htaken | hreached
    · exact .inl (hbefore.trans htaken)
    · exact .inr (hstart.le.trans hreached)

end Sys2Proof.Machine
end


section
/-! SUPPORT. A DSYNC pulse (R14, R15). -/

namespace Sys2Proof.Machine

/-! ## The parts of a pulse -/

/-- The state with the sync state LOCKED and the sync timer at 0 (R14). -/
def State.locked (s : State) : State := { s with frame := { s.frame with sync := .locked, syncTimer := some 0 } }

theorem syncTaken_eq (s : State) : s.syncTaken = s.locked.raiseBothIf (s.frame.sync == .seeking) .syncRegained := rfl

@[simp] theorem locked_port (s : State) (q : Port) : s.locked.port q = s.port q := by cases q <;> rfl

@[simp] theorem syncTaken_frame_sync (s : State) : s.syncTaken.frame.sync = .locked := by simp [State.syncTaken]
@[simp] theorem syncTaken_frame_syncTimer (s : State) : s.syncTaken.frame.syncTimer = some 0 := by simp [State.syncTaken]

/-- A taken DSYNC raises SyncRegained out of SEEKING and nothing else (R14). -/
theorem syncTaken_isIn (s : State) (e : Event) (q : Port) (h : s.control.mode ≠ .starting) :
    e.isIn (s.syncTaken.port q).events
      = (e.isIn (s.port q).events || (s.frame.sync == .seeking && Event.syncRegained == e)) := by
  rw [syncTaken_eq, raiseBothIf_isIn s.locked _ _ _ _ h, locked_port]

/-- The frame with every slot that has no outcome yet TRUNCATED (R15). -/
def State.cut (s : State) : State :=
  { s with frame := { s.frame with run := .none, next := 8, outcomes := truncatedOutcomes s.frame.outcomes } }

theorem truncate_eq (s : State) : s.truncate = s.cut.frameEnd := rfl

@[simp] theorem cut_port (s : State) (q : Port) : s.cut.port q = s.port q := by cases q <;> rfl
@[simp] theorem cut_control (s : State) : s.cut.control = s.control := rfl
@[simp] theorem cut_settings (s : State) : s.cut.settings = s.settings := rfl
@[simp] theorem cut_waiting (s : State) : s.cut.waiting = s.waiting := rfl
@[simp] theorem cut_stamp (s : State) : s.cut.stamp = s.stamp := rfl
@[simp] theorem cut_frame_sync (s : State) : s.cut.frame.sync = s.frame.sync := rfl
@[simp] theorem cut_frame_syncTimer (s : State) : s.cut.frame.syncTimer = s.frame.syncTimer := rfl
@[simp] theorem cut_frame_count (s : State) : s.cut.frame.count = s.frame.count := rfl

theorem getElem_truncated (v : Vector (Option SlotOutcome) 8) (k : Fin 8) :
    (endOutcomes (truncatedOutcomes v))[k] = v[k].getD .truncated := by
  rw [getElem_endOutcomes]
  fin_cases k <;> rfl

@[simp] theorem syncTaken_stamp (s : State) : s.syncTaken.stamp = s.stamp := by simp [State.stamp]

/-- The slots of a truncated frame that had no outcome are TRUNCATED (R15). -/
theorem truncate_lastOutcomes (s : State) (k : Fin 8) :
    s.truncate.frame.lastOutcomes[k] = s.frame.outcomes[k].getD .truncated := by
  rw [truncate_eq, frameEnd_frame_lastOutcomes]
  exact getElem_truncated _ k

/-! ## The sync state through a frame end and a frame start -/

/-- Outside HOLDING a frame end leaves the sync state, the sync timer, the settings and their pending changes. -/
theorem frameEnd_keeps {s : State} (h : s.control.mode ≠ .holding) :
    s.frameEnd.frame.sync = s.frame.sync ∧ s.frameEnd.frame.syncTimer = s.frame.syncTimer
      ∧ s.frameEnd.settings = s.settings ∧ s.frameEnd.waiting = s.waiting := by
  refine frameEnd_cases (P := fun u => u.frame.sync = s.frame.sync ∧ u.frame.syncTimer = s.frame.syncTimer
    ∧ u.settings = s.settings ∧ u.waiting = s.waiting) s ?_ (fun hholding => absurd hholding h) (fun _ => ?_) <;> simp

/-- The entry to HELD applies the pending settings, with the sync state of their SyncMode, and stops the sync timer (R13,
R17, R142). -/
theorem frameEnd_sync_held {s : State} (h : s.control.mode = .holding) :
    s.frameEnd.frame.syncTimer = none ∧ s.frameEnd.settings = s.settings.applied s.waiting ∧ s.frameEnd.waiting = noWaiting
      ∧ s.frameEnd.frame.sync =
        if (s.settings.applied s.waiting).timing.syncMode = s.settings.timing.syncMode then s.frame.sync
        else if (s.settings.applied s.waiting).timing.syncMode = .locked then .seeking else .free := by
  have hsync := congrArg Prod.fst (applyWaiting_sync s.trackEngine.enterTail)
  simp only [enterTail_settings, trackEngine_settings, enterTail_waiting, trackEngine_waiting, enterTail_frame_sync,
    trackEngine_frame] at hsync
  rw [frameEnd_of_holding h]
  refine ⟨by simp, by simp [State.enterHeld], by simp [State.enterHeld], ?_⟩
  have hheld : s.trackEngine.enterTail.enterHeld.frame.sync = s.trackEngine.enterTail.applyWaiting.frame.sync := by
    simp [State.enterHeld]
  rw [hheld, hsync]
  split <;> rfl

/-- A frame start right after a taken DSYNC: LOCKED with the sync timer at 0, unless SyncMode changes (R13, R14, R16). -/
theorem frameStart_relocked {s : State} (hsync : s.frame.sync = .locked) (htimer : s.frame.syncTimer = some 0)
    (hwait : ∀ ch, s.waiting.timing = some ch → TimingOk ch.value) :
    ((s.settings.applied s.waiting).timing.syncMode = s.settings.timing.syncMode →
        s.frameStart.frame.sync = .locked ∧ s.frameStart.frame.syncTimer = some 0)
      ∧ ((s.settings.applied s.waiting).timing.syncMode ≠ s.settings.timing.syncMode →
        s.frameStart.frame.sync = (if (s.settings.applied s.waiting).timing.syncMode = .locked then .seeking else .free)
          ∧ s.frameStart.frame.syncTimer = none) := by
  refine ⟨fun hkept => ?_, fun hchanged => ?_⟩
  · have hnot : ¬ s.frameApplied.Expires s.waiting.timing.isSome := by
      rw [frameApplied_expires_iff hkept, htimer]
      rintro ⟨hsome, d, hd, hle⟩
      obtain ⟨ch, hch⟩ := Option.ne_none_iff_exists'.1 hsome
      obtain ⟨hperiod, -, hratio, -⟩ := hwait ch hch
      have happlied : (s.settings.applied s.waiting).timing = ch.value := by simp [Settings.applied, takeChange, hch]
      rw [happlied, Timing.expiry, ← Option.some.inj hd, Nat.le_zero, Nat.mul_eq_zero] at hle
      omega
    obtain ⟨hstays, hkeeps⟩ := frameStart_sync_kept hkept hnot
    exact ⟨hstays.trans hsync, hkeeps.trans htimer⟩
  · obtain ⟨hsettled, hstops, -⟩ := frameStart_sync_changed hchanged
    exact ⟨hsettled, hstops⟩

/-! ## The pulse by mode and phase -/

theorem exec_dsync {s : State} (hstarting : s.control.mode ≠ .starting) (hheld : s.control.mode ≠ .held) :
    exec .dsync s = .next s.dsyncPulse := by
  simp only [exec, execDsync]
  split <;> simp_all

theorem dsyncPulse_of_tail {s : State} (hfree : s.frame.sync ≠ .free) (h : s.frame.phase = .tail) :
    s.dsyncPulse = s.syncTaken.frameStart := by
  simp [State.dsyncPulse, hfree, h]

theorem dsyncPulse_of_running {s : State} (hfree : s.frame.sync ≠ .free) (h : s.frame.phase = .running) :
    s.dsyncPulse = if s.frame.slotBegun then s.syncTaken.truncate.frameStartUnlessHeld else s.syncTaken.moveStart := by
  simp [State.dsyncPulse, hfree, h]

/-- A frame start after a taken DSYNC, seen from the state before it. -/
theorem syncTaken_started {s : State} (h : s.control.mode ≠ .starting) : FrameStarted s s.syncTaken.frameStart := by
  refine (frameStart_started s.syncTaken).seenFrom (by simp) (by simp) (by simp) (by simp) (by simp) (by simp) (by simp)
    (fun i => by cases i <;> simp [State.tool]) (by simp) (fun p => ?_) (fun p e he => ?_)
  · rw [syncTaken_eq]
    by_cases hseeking : s.frame.sync = .seeking
    · simp [State.raiseBothIf, hseeking, port_raiseBoth (s := s.locked) h]
    · simp [State.raiseBothIf, hseeking]
  · rw [syncTaken_isIn _ _ _ h, beq_of_ofFrameStart he rfl, Bool.and_false, Bool.or_false]

/-- A DSYNC that truncates a frame keeps SyncRegained, which it has raised out of SEEKING (R14). -/
theorem truncate_syncRegained {s : State} (h : s.control.mode ≠ .starting) (hseeking : s.frame.sync = .seeking) (q : Port) :
    Event.syncRegained.isIn (s.syncTaken.truncate.port q).events = true := by
  rw [truncate_eq, frameEnd_isIn _ _ _ (by simpa using h) (by decide), trackEngine_isIn _ _ _ (by simpa using h), cut_port,
    syncTaken_isIn _ _ _ h]
  simp [hseeking]

/-- Settles O43: the pulse by phase; a truncation is a frame end, and a frame start follows it outside HELD. -/
theorem dsyncByModeAndPhase : Obligations.DsyncByModeAndPhase := by
  intro s hs hwait told mode kept changed relocked
  refine ⟨?_, fun hwindow hvalid => slotBegun_iff hwindow hvalid, fun w hw => ?_, fun hstarting hheld hfree =>
    ⟨fun hphase => ?_, fun hphase hbegun => ?_, fun hphase hbegun => ?_⟩⟩
  · rintro (hmode | hmode | hfree)
    · simp only [exec, execDsync, hmode]
    · simp only [exec, execDsync, hmode]
    · simp only [exec, execDsync, State.dsyncPulse, hfree, if_true]
      split <;> rfl
  · unfold Frame.slotBegun
    rw [hw]
    exact Bool.or_eq_true_iff.trans (or_congr decide_eq_true_iff decide_eq_true_iff)
  · refine ⟨_, (exec_dsync hstarting hheld).trans (congrArg _ (dsyncPulse_of_tail hfree hphase)),
      syncTaken_started hstarting, ?_, fun p hseeking => ?_⟩
    · have hlock := frameStart_relocked (s := s.syncTaken) (by simp) (by simp) (by simpa using hwait)
      simpa only [syncTaken_settings, syncTaken_waiting] using hlock
    · rw [frameStart_isIn_kept _ _ (.inl rfl), syncTaken_isIn _ _ _ hstarting]
      simp [hseeking]
  · refine ⟨_, (exec_dsync hstarting hheld).trans (congrArg _ (dsyncPulse_of_running hfree hphase)), ?_⟩
    rw [hbegun, if_neg (by simp)]
    refine ⟨rfl, rfl, by simp, by simp, by simp, by simp, by simp, by simp, by simp, by simp, fun p hseeking => ?_, by simp⟩
    rw [moveStart_port, syncTaken_isIn _ _ _ hstarting]
    simp [hseeking]
  · refine ⟨_, (exec_dsync hstarting hheld).trans (congrArg _ (dsyncPulse_of_running hfree hphase)), ?_⟩
    rw [hbegun, if_pos rfl, State.frameStartUnlessHeld]
    have hregained := fun hseeking => truncate_syncRegained hstarting hseeking
    have hmode := truncate_held s.syncTaken (by simpa using hheld)
    rw [syncTaken_control] at hmode
    by_cases hholding : s.control.mode = .holding
    · obtain ⟨htimer, hsettings, hwaiting, hsync⟩ := frameEnd_sync_held (s := s.syncTaken.cut) (by simpa using hholding)
      simp only [cut_settings, cut_waiting, cut_frame_sync, syncTaken_settings, syncTaken_waiting, syncTaken_frame_sync,
        ← truncate_eq] at htimer hsettings hwaiting hsync
      rw [if_pos (hmode.2 hholding)]
      refine ⟨fun p hseeking => hregained hseeking p, ?_, ?_, fun k => ?_, ?_, ?_, fun hnot => absurd hholding hnot,
        fun _ => ⟨?_, ?_, hmode.2 hholding, fun hkept => ?_, fun hchanged => ?_, htimer⟩⟩
      · rw [truncate_eq, frameEnd_frame_lastFrame, cut_stamp, syncTaken_stamp]
      · rw [truncate_eq, frameEnd_frame_run]
      · rw [truncate_lastOutcomes, syncTaken_frame_outcomes]
      · exact hsettings
      · exact hwaiting
      · rw [truncate_eq, frameEnd_frame_count, cut_frame_count, syncTaken_frame_count]
      · rw [truncate_frame_phase, syncTaken_control, if_pos hholding]
      · exact hsync.trans (if_pos hkept)
      · exact hsync.trans (if_neg hchanged)
    · obtain ⟨hsync, htimer, hsettings, hwaiting⟩ := frameEnd_keeps (s := s.syncTaken.cut) (by simpa using hholding)
      simp only [cut_settings, cut_waiting, cut_frame_sync, cut_frame_syncTimer, syncTaken_settings, syncTaken_waiting,
        syncTaken_frame_sync, syncTaken_frame_syncTimer, ← truncate_eq] at htimer hsettings hwaiting hsync
      rw [if_neg (mt hmode.1 hholding)]
      refine ⟨fun p hseeking => ?_, ?_, ?_, fun k => ?_, ?_, ?_, fun _ => ⟨?_, ?_, ?_, ?_⟩, fun h => absurd h hholding⟩
      · rw [frameStart_isIn_kept _ _ (.inl rfl)]
        exact hregained hseeking p
      · rw [frameStart_frame_lastFrame, truncate_eq, frameEnd_frame_lastFrame, cut_stamp, syncTaken_stamp]
      · simp
      · rw [frameStart_frame_lastOutcomes, truncate_lastOutcomes, syncTaken_frame_outcomes]
      · rw [frameStart_settings, hsettings, hwaiting]
      · simp
      · have hcount := (frameStart_started s.syncTaken.truncate).count
        rwa [truncate_eq, frameEnd_frame_count, cut_frame_count, syncTaken_frame_count] at hcount
      · simp
      · exact (frameStart_started s.syncTaken.truncate).timer.1
      · have hlock := frameStart_relocked hsync htimer (by rwa [hwaiting])
        rw [hsettings, hwaiting] at hlock
        exact hlock

end Sys2Proof.Machine
end


section
/-! SUPPORT. What a slot drives and listens to (R2 to R5, R26, R39, R55, R155). -/

namespace Sys2Proof.Machine

/-! ## Coils (R2, R3, R5) -/

/-- A coil of the grid in force (R2). -/
def Coil.InGrid (c : Settings) (q : Coil) : Prop := 0 ≤ q.number ∧ q.number < (c.coils q.axis : Int)

/-- A coil of a band, clipped at the last coil (R3). -/
def Coil.InBand (c : Settings) (axis : Axis) (b : Nat) (q : Coil) : Prop :=
  q.axis = axis ∧ 12 * (b : Int) ≤ q.number ∧ q.number < 12 * b + 12 ∧ q.number < (c.coils axis : Int)

theorem mem_bandList {count b n : Nat} : n ∈ bandList count b ↔ 12 * b ≤ n ∧ n < 12 * b + 12 ∧ n < count := by
  simp only [bandList, Config.bandCoils, List.mem_filter, List.mem_map, List.mem_range, decide_eq_true_eq]
  refine ⟨?_, fun ⟨hlo, hhi, hcount⟩ => ⟨⟨n - 12 * b, by omega, by omega⟩, hcount⟩⟩
  rintro ⟨⟨i, hi, rfl⟩, hcount⟩
  exact ⟨by omega, by omega, hcount⟩

theorem mem_bandCoils {c : Settings} {axis : Axis} {b : Nat} {q : Coil} : q ∈ bandCoils c axis b ↔ q.InBand c axis b := by
  simp only [bandCoils, List.mem_map, List.bind_eq_flatMap, List.pure_def, List.mem_flatMap, List.mem_singleton,
    mem_bandList, Coil.InBand]
  constructor
  · rintro ⟨_, ⟨n, ⟨hlo, hhi, hcount⟩, rfl⟩, rfl⟩
    refine ⟨rfl, ?_, ?_, ?_⟩ <;> dsimp only <;> omega
  · obtain ⟨a, number⟩ := q
    rintro ⟨rfl, hlo, hhi, hcount⟩
    dsimp only at hlo hhi hcount
    have hnonneg : 0 ≤ number := by omega
    exact ⟨number, ⟨number.toNat, ⟨by omega, by omega, by dsimp only; omega⟩, (Int.toNat_of_nonneg hnonneg).symm⟩, rfl⟩

theorem Coil.InBand.inGrid {c : Settings} {axis : Axis} {b : Nat} {q : Coil} (h : q.InBand c axis b) : q.InGrid c := by
  obtain ⟨rfl, hlo, -, hcount⟩ := h
  exact ⟨by omega, hcount⟩

theorem nearestCoil_eq (pos : Int) : nearestCoil pos = (pos + 128) / 256 := rfl

/-- The nearest coil of a position within the span is a coil of the axis (R2, R4). -/
theorem nearestCoil_inGrid {count : Nat} {pos : Int} (hlo : 0 ≤ pos) (hhi : pos ≤ span count) :
    0 ≤ nearestCoil pos ∧ nearestCoil pos < (count : Int) := by
  rw [nearestCoil_eq]
  unfold span at hhi
  simp only [Config.pitch] at hhi
  omega

theorem windowCentre_eq {count : Nat} (h : 16 ≤ count) (pos : Int) :
    windowCentre count pos = max 2 (min ((pos + 128) / 256) ((count : Int) - 3)) :=
  clamp_eq_max_min (by omega) _

/-- A window about its centre lies within the grid (R5, R55). -/
theorem windowCoils_inGrid {c : Settings} {axis : Axis} (h : 16 ≤ c.coils axis) (pos : Int) {q : Coil}
    (hq : q ∈ windowCoils axis (windowCentre (c.coils axis) pos)) : q.InGrid c := by
  have hcentre := windowCentre_eq h pos
  generalize windowCentre (c.coils axis) pos = n at hq hcentre
  simp only [windowCoils, List.mem_cons, List.not_mem_nil, or_false] at hq
  rcases hq with rfl | rfl | rfl | rfl | rfl <;> exact ⟨by dsimp only; omega, by dsimp only; omega⟩

/-! ## The function of a slot (R18, R19) -/

theorem functionOf_search {r : SlotRecord} (h : r.function = 1) : functionOf r = some .search := by simp [functionOf, h]
theorem functionOf_track {r : SlotRecord} (h : r.function = 2) : functionOf r = some .track := by simp [functionOf, h]
theorem functionOf_tilt {r : SlotRecord} (h : r.function = 3) : functionOf r = some .tilt := by simp [functionOf, h]
theorem functionOf_code {r : SlotRecord} (h : r.function = 4) : functionOf r = some .code := by simp [functionOf, h]
theorem functionOf_noise {r : SlotRecord} (h : r.function = 5) : functionOf r = some .noise := by simp [functionOf, h]

/-- A valid slot record that is not IDLE has one of the five functions (R18, R19). -/
theorem function_of_slotValid {r : SlotRecord} (h : slotValid r = true) (hr : r.function ≠ 0) :
    r.function = 1 ∨ r.function = 2 ∨ r.function = 3 ∨ r.function = 4 ∨ r.function = 5 := by
  by_contra hnone
  simp only [not_or] at hnone
  obtain ⟨h1, h2, h3, h4, h5⟩ := hnone
  have hfunction : functionOf r = none := by
    simp only [functionOf, hr, h1, h2, h3, h4, h5, if_false]
  simp [slotValid, hfunction] at h

theorem slotValid_of_planValid {framePeriod : Nat} {p : Plan} (h : planValid framePeriod p = true) {k : Fin 8}
    (hk : p[k].function ≠ 0) : slotValid p[k] = true := by
  simp only [planValid, Bool.and_eq_true, List.all_eq_true] at h
  obtain ⟨⟨⟨-, hslots⟩, -⟩, -⟩ := h
  exact hslots _ (List.mem_filter.2 ⟨by simp, by simpa [isIdle] using hk⟩)

/-! ## The job of a slot (R26, R39) -/

section
variable {s : State} {k : Fin 8}

theorem slotJob_window {w : SurveyWindow} (h : s.frame.window = some w) : s.slotJob k = some (surveyJob s.settings w) := by
  simp [State.slotJob, h]

theorem slotJob_track (hw : s.frame.window = none) (h : s.frame.activePlan[k].function = 2) :
    s.slotJob k = if (s.tool (slotTool s.frame.activePlan[k])).state ≠ .vacant then
      some (trackJob s.settings (slotTool s.frame.activePlan[k]) (s.tool (slotTool s.frame.activePlan[k]))) else none := by
  simp only [State.slotJob, hw, functionOf_track h, bne_iff_ne]

theorem slotJob_tilt (hw : s.frame.window = none) (h : s.frame.activePlan[k].function = 3) :
    s.slotJob k = if (s.tool (slotTool s.frame.activePlan[k])).state ≠ .vacant then
      some (tiltJob s.settings (slotTool s.frame.activePlan[k]) (s.tool (slotTool s.frame.activePlan[k]))) else none := by
  simp only [State.slotJob, hw, functionOf_tilt h, bne_iff_ne]

theorem slotJob_code (hw : s.frame.window = none) (h : s.frame.activePlan[k].function = 4) :
    s.slotJob k = if (s.tool (slotTool s.frame.activePlan[k])).state ≠ .vacant then
      some (codeJob s.settings (slotTool s.frame.activePlan[k]) (s.tool (slotTool s.frame.activePlan[k]))) else none := by
  simp only [State.slotJob, hw, functionOf_code h, bne_iff_ne]

theorem slotJob_search (hw : s.frame.window = none) (h : s.frame.activePlan[k].function = 1) :
    s.slotJob k = if s.searchHasWork then some (searchJob s.settings s.searchFrom) else none := by
  simp only [State.slotJob, hw, functionOf_search h]

theorem slotJob_noise (hw : s.frame.window = none) (h : s.frame.activePlan[k].function = 5) :
    s.slotJob k = some (.noise s.frame.noiseAxis s.frame.noiseBand) := by
  simp only [State.slotJob, hw, functionOf_noise h]

/-- A SEARCH slot with work runs from the cursor at its start (R39). -/
theorem searchAtStart_of_work (hw : s.frame.window = none) (h : s.frame.activePlan[k].function = 1)
    (hwork : s.searchHasWork = true) : s.searchAtStart k = s.searchFrom := by
  rw [State.searchAtStart, hw, functionOf_search h, hwork]
  rfl

theorem searchHasWork_iff : s.searchHasWork = true ↔
    ((s.tool .t0).state = .vacant ∨ (s.tool .t1).state = .vacant) ∧ ∃ i : Fin 4, s.settings.profiles[i].enabled = true := by
  simp only [State.searchHasWork, Bool.and_eq_true, Bool.or_eq_true, beq_iff_eq, List.any_eq_true]
  refine and_congr Iff.rfl ?_
  constructor
  · rintro ⟨f, hf, henabled⟩
    obtain ⟨i, hi, rfl⟩ := List.getElem_of_mem hf
    exact ⟨⟨i, by simpa using hi⟩, by simpa using henabled⟩
  · rintro ⟨i, hi⟩
    exact ⟨s.settings.profiles[i], by simp, hi⟩

/-- Which slots are needed (R26, R39, R155). -/
theorem slotJob_isSome_iff (hvalid : planValid s.settings.timing.framePeriod s.frame.activePlan = true)
    (hk : s.frame.activePlan[k].function ≠ 0) : (s.slotJob k).isSome = true ↔
      s.frame.window.isSome = true ∨ s.frame.activePlan[k].function = 5
      ∨ (s.frame.activePlan[k].function = 1 ∧ s.searchHasWork = true)
      ∨ (2 ≤ s.frame.activePlan[k].function.toNat ∧ s.frame.activePlan[k].function.toNat ≤ 4
        ∧ (s.tool (slotTool s.frame.activePlan[k])).state ≠ .vacant) := by
  cases hw : s.frame.window with
  | some w => simp [slotJob_window hw]
  | none =>
    rcases function_of_slotValid (slotValid_of_planValid hvalid hk) hk with h | h | h | h | h
    · rw [slotJob_search hw h, h]
      simp
    · rw [slotJob_track hw h, h]
      simp
    · rw [slotJob_tilt hw h, h]
      simp
    · rw [slotJob_code hw h, h]
      simp
    · rw [slotJob_noise hw h, h]
      simp

end

end Sys2Proof.Machine
end


section
/-! SUPPORT. The coils of each kind of slot (R2 to R5, R39, R55, R155). -/

namespace Sys2Proof.Machine

/-! ## Every coil lies within the grid (R2) -/

theorem mem_surveyDrives {c : Settings} {w : SurveyWindow} {q : Coil} : q ∈ (surveyJob c w).drives c ↔
    w.kind = .response ∧ ((w.xDone = false ∧ q.InBand c .x w.bx) ∨ (w.yDone = false ∧ q.InBand c .y w.byy)) := by
  unfold surveyJob
  cases w.kind with
  | baseline => simp [Job.drives]
  | response =>
    cases w.xDone <;> cases w.yDone <;> simp [Job.drives, mem_bandCoils]

theorem mem_surveyListens {c : Settings} {w : SurveyWindow} {q : Coil} :
    q ∈ (surveyJob c w).listens c ↔ q.InBand c .x w.bx ∨ q.InBand c .y w.byy := by
  simp [surveyJob, Job.listens, mem_bandCoils]

theorem surveyJob_frequency (c : Settings) (w : SurveyWindow) :
    (surveyJob c w).frequency = if w.kind = .response then some c.profiles[w.profile].tipFreq else none := by
  unfold surveyJob
  cases w.kind <;> rfl

theorem searchJob_frequency (c : Settings) (u : SearchCursor) :
    (searchJob c u).frequency = some c.profiles[u.profile].tipFreq := by
  unfold searchJob
  cases u.phase <;> rfl

theorem searchJob_of_sweep {c : Settings} {u : SearchCursor} (h : u.phase = .sweep) :
    searchJob c u = .sweep c.profiles[u.profile].tipFreq u.band := by
  simp [searchJob, h]

theorem searchJob_of_locate {c : Settings} {u : SearchCursor} (h : u.phase = .locate) :
    searchJob c u = .locate c.profiles[u.profile].tipFreq (nearestCoil (u.hitX.getD 0)) u.band := by
  simp [searchJob, h]

/-- The windows a TRACK or TILT slot listens to (R5). -/
def windowsOf (x y : Int) : List Coil := windowCoils .x x ++ windowCoils .y y

/-- The centre coil of a window is one of its coils (R5). -/
theorem centre_mem_windowCoils (axis : Axis) (n : Int) : ({ axis, number := n } : Coil) ∈ windowCoils axis n := by
  simp [windowCoils]

section
variable {c : Settings} {q : Coil} (hgrid : GridOk c)
include hgrid

theorem windows_inGrid (x y : Int)
    (hq : q ∈ windowCoils .x (windowCentre c.xCount x) ++ windowCoils .y (windowCentre c.yCount y)) : q.InGrid c := by
  obtain ⟨hx, -, hy, -⟩ := hgrid
  rcases List.mem_append.1 hq with hq | hq
  · exact windowCoils_inGrid (axis := .x) hx x hq
  · exact windowCoils_inGrid (axis := .y) hy y hq

theorem trackJob_inGrid {i : ToolId} {t : Tool} (hq : q ∈ (trackJob c i t).drives c ∨ q ∈ (trackJob c i t).listens c) :
    q.InGrid c := by
  rcases hq with hq | hq
  · refine windows_inGrid hgrid (t.raw.x + t.rawV.x) (t.raw.y + t.rawV.y) (List.mem_append_left _ ?_)
    rw [List.mem_singleton.1 hq]
    exact centre_mem_windowCoils ..
  · exact windows_inGrid hgrid _ _ hq

theorem tiltJob_inGrid {i : ToolId} {t : Tool} (hq : q ∈ (tiltJob c i t).drives c ∨ q ∈ (tiltJob c i t).listens c) :
    q.InGrid c := by
  rcases hq with hq | hq
  · refine windows_inGrid hgrid (t.ring.getD t.raw).x (t.ring.getD t.raw).y (List.mem_append_left _ ?_)
    rw [List.mem_singleton.1 hq]
    exact centre_mem_windowCoils ..
  · exact windows_inGrid hgrid _ _ hq

end

theorem codeJob_inGrid {c : Settings} {q : Coil} {i : ToolId} {t : Tool} (hlo : 0 ≤ t.raw.x) (hhi : t.raw.x ≤ c.xSpan)
    (hq : q ∈ (codeJob c i t).drives c ∨ q ∈ (codeJob c i t).listens c) : q.InGrid c := by
  have hcoil : q = { axis := .x, number := nearestCoil t.raw.x } := by
    rcases hq with hq | hq <;> exact List.mem_singleton.1 hq
  rw [hcoil]
  exact nearestCoil_inGrid hlo hhi

theorem searchJob_inGrid {c : Settings} {q : Coil} {u : SearchCursor} (hgrid : GridOk c)
    (hhit : ∀ x, u.hitX = some x → 0 ≤ x ∧ x ≤ c.xSpan)
    (hq : q ∈ (searchJob c u).drives c ∨ q ∈ (searchJob c u).listens c) : q.InGrid c := by
  cases hphase : u.phase with
  | sweep =>
    rw [searchJob_of_sweep hphase] at hq
    rcases hq with hq | hq <;> exact (mem_bandCoils.1 hq).inGrid
  | locate =>
    rw [searchJob_of_locate hphase] at hq
    rcases hq with hq | hq
    · rw [List.mem_singleton.1 hq]
      have hrange : 0 ≤ u.hitX.getD 0 ∧ u.hitX.getD 0 ≤ c.xSpan := by
        cases hx : u.hitX with
        | none =>
          obtain ⟨hcount, -⟩ := hgrid
          simp only [Option.getD_none, Settings.xSpan, span, Config.pitch]
          omega
        | some x => exact hhit x hx
      exact nearestCoil_inGrid hrange.1 hrange.2
    · exact (mem_bandCoils.1 hq).inGrid

theorem surveyJob_inGrid {c : Settings} {q : Coil} {w : SurveyWindow}
    (hq : q ∈ (surveyJob c w).drives c ∨ q ∈ (surveyJob c w).listens c) : q.InGrid c := by
  rw [mem_surveyDrives, mem_surveyListens] at hq
  rcases hq with ⟨-, ⟨-, hq⟩ | ⟨-, hq⟩⟩ | hq | hq <;> exact hq.inGrid

/-! ## The statement -/

/-- A job under a condition is the one named. -/
theorem eq_of_ite_some {P : Prop} [Decidable P] {a j : Job} (h : (if P then some a else none) = some j) : P ∧ j = a := by
  rw [Option.ite_none_right_eq_some] at h
  exact ⟨h.1, (Option.some.inj h.2).symm⟩

/-- Settles O45: the job of each function by `slotJob_*`, its coils by membership in the bands and windows. -/
theorem slotIsNeeded : Obligations.SlotIsNeeded := by
  intro s k hvalid hactive r c tool profile centre coils windows inBand
  have hcentreX : GridOk c → ∀ pos, windowCentre c.xCount pos = centre c.xCount pos :=
    fun hgrid => windowCentre_eq hgrid.1
  have hcentreY : GridOk c → ∀ pos, windowCentre c.yCount pos = centre c.yCount pos :=
    fun ⟨_, _, hy, _⟩ => windowCentre_eq hy
  refine ⟨?_, fun hgrid j hj => ⟨fun hw hf => ?_, fun hw hf => ?_, fun hw hf => ?_, fun hw hf u hu => ?_, fun hw hf => ?_,
    fun w hw => ?_, fun hlo hhi hhit q hq => ?_⟩⟩
  · rw [slotJob_isSome_iff hvalid hactive, searchHasWork_iff]
    rfl
  · obtain ⟨-, rfl⟩ := eq_of_ite_some ((slotJob_track hw hf).symm.trans hj)
    exact ⟨rfl, congrArg (fun n => [Coil.mk .x n]) (hcentreX hgrid _),
      congrArg₂ windowsOf (hcentreX hgrid _) (hcentreY hgrid _)⟩
  · obtain ⟨-, rfl⟩ := eq_of_ite_some ((slotJob_tilt hw hf).symm.trans hj)
    exact ⟨rfl, congrArg (fun n => [Coil.mk .x n]) (hcentreX hgrid _),
      congrArg₂ windowsOf (hcentreX hgrid _) (hcentreY hgrid _)⟩
  · obtain ⟨-, rfl⟩ := eq_of_ite_some ((slotJob_code hw hf).symm.trans hj)
    exact ⟨rfl, rfl, rfl⟩
  · obtain ⟨hwork, rfl⟩ := eq_of_ite_some ((slotJob_search hw hf).symm.trans hj)
    rw [searchAtStart_of_work hw hf hwork] at hu
    rw [← hu]
    refine ⟨searchJob_frequency c u, fun hphase q => ?_, fun x hphase hx => ?_⟩
    · rw [searchJob_of_sweep hphase]
      exact ⟨mem_bandCoils, mem_bandCoils⟩
    · rw [searchJob_of_locate hphase, hx]
      exact ⟨rfl, fun q => mem_bandCoils⟩
  · obtain rfl := Option.some.inj ((slotJob_noise hw hf).symm.trans hj)
    exact ⟨rfl, rfl, fun q => mem_bandCoils⟩
  · obtain rfl := Option.some.inj ((slotJob_window hw).symm.trans hj)
    exact ⟨surveyJob_frequency c w, fun q => ⟨mem_surveyDrives, mem_surveyListens⟩⟩
  · cases hw : s.frame.window with
    | some w =>
      obtain rfl := Option.some.inj ((slotJob_window hw).symm.trans hj)
      exact surveyJob_inGrid hq
    | none =>
      rcases function_of_slotValid (slotValid_of_planValid hvalid hactive) hactive with hf | hf | hf | hf | hf
      · obtain ⟨hwork, rfl⟩ := eq_of_ite_some ((slotJob_search hw hf).symm.trans hj)
        rw [searchAtStart_of_work hw hf hwork] at hhit
        exact searchJob_inGrid hgrid hhit hq
      · obtain ⟨-, rfl⟩ := eq_of_ite_some ((slotJob_track hw hf).symm.trans hj)
        exact trackJob_inGrid hgrid hq
      · obtain ⟨-, rfl⟩ := eq_of_ite_some ((slotJob_tilt hw hf).symm.trans hj)
        exact tiltJob_inGrid hgrid hq
      · obtain ⟨-, rfl⟩ := eq_of_ite_some ((slotJob_code hw hf).symm.trans hj)
        exact codeJob_inGrid hlo hhi hq
      · obtain rfl := Option.some.inj ((slotJob_noise hw hf).symm.trans hj)
        rcases hq with hq | hq
        · cases hq
        · exact (mem_bandCoils.1 hq).inGrid

end Sys2Proof.Machine
end

section
/-! SUPPORT. The task slots' invariant through every command. -/

namespace Sys2Proof.Machine

/-! ## What a task begins -/

/-- What a task of kind `k` of port `p` has begun stands: its plan pending, its hold not yet reached, its survey waiting
or active. -/
def State.Begun (s : State) (p : Port) : TaskKind → Prop
  | .setPlan => s.frame.pendingPlan.map (·.issuer) = some p
  | .holdScan => s.control.mode = .holding ∧ s.control.owner = some p
  | .coilSurvey =>
    s.control.reservation.map (·.port) = some p ∨ (s.control.mode = .survey ∧ s.control.owner = some p)

theorem begun_setPlan {s : State} {p : Port} :
    s.Begun p .setPlan ↔ s.frame.pendingPlan.map (·.issuer) = some p := Iff.rfl
theorem begun_holdScan {s : State} {p : Port} :
    s.Begun p .holdScan ↔ s.control.mode = .holding ∧ s.control.owner = some p := Iff.rfl
theorem begun_coilSurvey {s : State} {p : Port} : s.Begun p .coilSurvey ↔
    s.control.reservation.map (·.port) = some p ∨ (s.control.mode = .survey ∧ s.control.owner = some p) := Iff.rfl

/-- What a task has begun is read from the pending plan and Mode Control alone. -/
theorem begun_congr {s t : State} (hplan : t.frame.pendingPlan = s.frame.pendingPlan) (hcontrol : t.control = s.control)
    (p : Port) (k : TaskKind) : t.Begun p k ↔ s.Begun p k := by
  cases k <;> simp only [State.Begun, hplan, hcontrol]

theorem tasksOk_iff {s : State} : TasksOk s ↔ ∀ p k, (s.port p).slot = .running k ↔ s.Begun p k := by
  refine ⟨fun h p k => ?_, fun h => ⟨fun p => h p .setPlan, fun p => h p .holdScan, fun p => h p .coilSurvey⟩⟩
  cases k
  · exact h.setPlan p
  · exact h.holdScan p
  · exact h.coilSurvey p

/-- Tasks end together with what they had begun: `E` says which. -/
theorem TasksOk.ended {s t : State} (hs : TasksOk s) (E : Port → TaskKind → Prop)
    (hslot : ∀ q k, (t.port q).slot = .running k ↔ (s.port q).slot = .running k ∧ ¬ E q k)
    (hbegun : ∀ q k, t.Begun q k ↔ s.Begun q k ∧ ¬ E q k) : TasksOk t := by
  rw [tasksOk_iff] at hs ⊢
  intro q k
  rw [hslot, hbegun, hs]

/-- A task of kind `k` starts at port `p`, where none runs, together with what it begins; every other task of that kind
that `E` holds of ends. -/
theorem TasksOk.started {s t : State} (hs : TasksOk s) {p : Port} {k : TaskKind} (E : TaskKind → Prop)
    (hidle : ∀ k, (s.port p).slot ≠ .running k) (hmine : (t.port p).slot = .running k)
    (hslot : ∀ q k, q ≠ p → ((t.port q).slot = .running k ↔ (s.port q).slot = .running k ∧ ¬ E k))
    (hbegun : ∀ q k', t.Begun q k' ↔ (q = p ∧ k' = k) ∨ (s.Begun q k' ∧ ¬ E k')) : TasksOk t := by
  rw [tasksOk_iff] at hs ⊢
  intro q k'
  rw [hbegun]
  by_cases hq : q = p
  · subst hq
    rw [hmine, ← hs]
    simp [hidle, eq_comm]
  · rw [hslot q k' hq, hs]
    simp [hq]

/-! ## The shared operations -/

theorem TasksOk.answer {s : State} (hs : TasksOk s) (p : Port) (code : Byte) (r : ResultCode) (pl : List Byte) :
    TasksOk (s.answer p code r pl) := hs.same (by simp [TasksSame])

theorem TasksOk.drivesZero {s : State} (hs : TasksOk s) (p : Port) : TasksOk (s.drivesZero p) :=
  hs.same (by simp [TasksSame])

theorem TasksOk.setPort {s : State} (hs : TasksOk s) {p : Port} {ps : PortState} (h : ps.slot = (s.port p).slot) :
    TasksOk (s.setPort p ps) := by
  refine hs.same ⟨fun q => ?_, by simp, by simp, by simp, by simp⟩
  rw [port_setPort]
  split
  · next hq => rw [h, hq]
  · rfl

theorem TasksOk.elapse {s : State} (hs : TasksOk s) (d : Nat) : TasksOk (s.elapse d) := hs.same (by simp [TasksSame])

theorem TasksOk.changeSetting {s : State} (hs : TasksOk s) (p : Port) (code : Byte) (w : Waiting) (fields : List Byte) :
    TasksOk (s.changeSetting p code w fields) := by
  have htaken : TasksOk (s.takeSetting w) := hs.same (by simp [TasksSame])
  exact htaken.answer ..

theorem completeTask_running (s : State) (p q : Port) (k k' : TaskKind) (r : ResultCode) :
    ((s.completeTask p k r).port q).slot = .running k' ↔ (s.port q).slot = .running k' ∧ ¬ (q = p ∧ k' = k) := by
  rw [completeTask_slot]
  by_cases hq : q = p
  · subst hq
    by_cases hk : (s.port q).slot = .running k
    · simp [hk, eq_comm]
    · simp only [hk, and_false, if_false, true_and, iff_self_and]
      rintro hk' rfl
      exact hk hk'
  · simp [hq]

/-- A task of kind `k₀` that runs only where `holds` is ended there: no task of that kind runs any more. -/
theorem ended_running {x : TaskSlot} {k₀ : TaskKind} {r : ResultCode} {holds : Prop} [Decidable holds]
    (h : x = .running k₀ → holds) (k : TaskKind) :
    (if holds ∧ x = .running k₀ then .completed k₀ r else x) = .running k ↔ x = .running k ∧ ¬ k = k₀ := by
  by_cases hx : x = .running k₀
  · simp [hx, h hx, eq_comm]
  · rw [if_neg (fun hboth => hx hboth.2), iff_self_and]
    rintro hk rfl
    exact hx hk

/-- A superseded plan ends the task that Set Plan started, whichever port's it is (R23). -/
theorem TasksOk.supersede_running {s : State} (hs : TasksOk s) (q : Port) (k : TaskKind) :
    (s.supersede.port q).slot = .running k ↔ (s.port q).slot = .running k ∧ ¬ k = .setPlan := by
  rw [supersede_slot]
  exact ended_running (hs.setPlan q).1 k

/-- A waiting survey that is cancelled ends the task that Coil Survey started, whichever port's it is (R149). -/
theorem TasksOk.cancelWaiting_running {s : State} (hs : TasksOk s) (h : s.control.mode = .scanning) (q : Port)
    (k : TaskKind) : (s.cancelWaiting.port q).slot = .running k ↔ (s.port q).slot = .running k ∧ ¬ k = .coilSurvey := by
  rw [cancelWaiting_slot]
  exact ended_running (by simpa [h] using (hs.coilSurvey q).1) k

/-- An active survey that is cancelled ends the task that Coil Survey started, whichever port's it is (R149, R157). -/
theorem TasksOk.cancelActive_running {s : State} (hs : TasksOk s) (h : s.control.mode = .survey)
    (hres : s.control.reservation = none) (q : Port) (k : TaskKind) :
    (s.cancelActive.port q).slot = .running k ↔ (s.port q).slot = .running k ∧ ¬ k = .coilSurvey := by
  rw [cancelActive_slot]
  exact ended_running (by simpa [h, hres] using (hs.coilSurvey q).1) k

/-! ## The requests on tasks, modes and the port -/

/-- A command with a port of its own starts no task and ends none. -/
theorem exec_ownPort_running {c : Instr} {p : Port} {s t : State} (hp : ownPort c = some p) (h : exec c s = .next t)
    (k : TaskKind) : (t.port p).slot = .running k ↔ (s.port p).slot = .running k := by
  cases c <;> simp only [ownPort, Option.some.injEq, reduceCtorEq] at hp <;> subst hp
  case fetchResponse =>
    simp only [Machine.exec, execFetchResponse] at h
    split at h <;> cases h <;> simp
  case answerReady =>
    cases h
    simp
  all_goals
    simp only [Machine.exec, execReadSamples, execSkipToNewest, execReadLatest, execReadStatus, execReadAttention,
      execSetAttentionMask, execSetTick, execAckTick, execSetWatermark, execReadTaskResult, execReadPlan, execReadMapRow,
      execReadSettings, execUnknownCode, execBadLength] at h
    refine request_keeps (P := fun t => (t.port _).slot = _ ↔ _) h (by simp) ?_
  case readTaskResult => rw [answer_port_slot, port_setPort_self, collected_running]
  all_goals
    repeat' split
    all_goals simp [State.advanceCursor, PortState.drained]

theorem TasksOk.ownPort {c : Instr} {p : Port} {s t : State} (hs : TasksOk s) (hp : ownPort c = some p)
    (h : Machine.exec c s = .next t) : TasksOk t := by
  have hport : t = s.setPort p (t.port p) := (exec_ownPort hp h).1
  refine hs.ended (fun _ _ => False) (fun q k => ?_) (fun q k => ?_)
  · rw [not_false_iff, and_true]
    by_cases hq : q = p
    · subst hq
      exact exec_ownPort_running hp h k
    · rw [hport, port_setPort_ne _ _ _ _ hq]
  · rw [not_false_iff, and_true]
    rw [hport]
    exact begun_congr (by simp) (by simp) q k

/-- An aborted task undoes what it has begun and reaches nothing that another task has begun (R25, R129, R153, R157). -/
theorem undoTask_begun {s : State} (hm : ModeOk s) {p : Port} {k : TaskKind} (hk : s.Begun p k) (q : Port) (k' : TaskKind) :
    (s.undoTask p k).Begun q k' ↔ s.Begun q k' ∧ ¬ (q = p ∧ k' = k) := by
  cases k with
  | setPlan =>
    rw [begun_setPlan] at hk
    rw [undoTask_setPlan, dropPlanOf_eq, if_pos hk]
    cases k' with
    | setPlan => simp only [State.Begun, hk]; simp [eq_comm]
    | holdScan | coilSurvey => simp [State.Begun]
  | holdScan =>
    obtain ⟨hmode, howner⟩ := hk
    rw [undoTask_holdScan, if_pos (by simp [State.ownsMode, hmode, howner])]
    cases k' with
    | holdScan => simp [State.Begun, hmode, howner, eq_comm]
    | setPlan | coilSurvey => simp [State.Begun, hmode]
  | coilSurvey =>
    rw [undoTask_coilSurvey]
    by_cases hmode : s.control.mode = .survey
    · have hres := hm.reservation_eq_none (by simp [hmode])
      have howner : s.control.owner = some p := by simpa [State.Begun, hres, hmode] using hk
      rw [if_pos (by simp [State.ownsMode, hmode, howner])]
      cases k' with
      | coilSurvey => simp [State.Begun, hmode, howner, hres, eq_comm]
      | setPlan | holdScan => simp [State.Begun, hmode]
    · have hres : s.control.reservation.map (·.port) = some p := by simpa [begun_coilSurvey, hmode] using hk
      rw [if_neg (by simp [State.ownsMode, hmode]), dropReservationOf_eq, if_pos hres]
      cases k' with
      | coilSurvey => simp only [State.Begun, hres, hmode]; simp [eq_comm]
      | setPlan | holdScan => simp [State.Begun]

theorem TasksOk.execAbortTask {p : Port} {s t : State} (hs : TasksOk s) (hm : ModeOk s) (h : execAbortTask p s = .next t) :
    TasksOk t := by
  refine request_keeps h (hs.drivesZero p) ?_
  split
  · next k hk =>
    have hbegun := (tasksOk_iff.1 hs p k).1 hk
    refine TasksOk.answer (hs.ended (fun q k' => q = p ∧ k' = k) (fun q k' => ?_) fun q k' => ?_) ..
    · rw [completeTask_running, undoTask_port_slot]
    · rw [begun_congr (s := s.undoTask p k) (by simp) (by simp), undoTask_begun hm hbegun]
  all_goals exact hs.answer ..

theorem TasksOk.execSetPlan {p : Port} {plan : Plan} {s t : State} (hs : TasksOk s) (h : execSetPlan p plan s = .next t) :
    TasksOk t := by
  refine request_keeps h (hs.drivesZero p) ?_
  split
  · exact hs.answer ..
  · next hidle =>
    split
    · refine TasksOk.answer (hs.started (k := .setPlan) (· = .setPlan) (not_running hidle) ?_ (fun q k hq => ?_)
        fun q k => ?_) ..
      · rw [startTask_slot, if_pos rfl]
      · rw [startTask_slot, if_neg hq, port_update, hs.supersede_running]
      · cases k with
        | setPlan => simp [State.Begun, eq_comm]
        | holdScan | coilSurvey => simp [State.Begun]
    · exact hs.answer ..

theorem TasksOk.execHoldScan {p : Port} {delay : Byte} {s t : State} (hs : TasksOk s) (hm : ModeOk s)
    (h : execHoldScan p delay s = .next t) : TasksOk t := by
  refine request_keeps h (hs.drivesZero p) ?_
  split
  · exact hs.answer ..
  · next hidle =>
    split
    · next hmode =>
      refine TasksOk.answer (hs.started (k := .holdScan) (· = .coilSurvey) (not_running hidle) ?_ (fun q k hq => ?_)
        fun q k => ?_) ..
      · rw [beginHold_slot, if_pos rfl]
      · rw [beginHold_slot, if_neg hq, hs.cancelWaiting_running hmode]
      · cases k <;> simp [State.Begun, hmode, eq_comm]
    · next hmode =>
      have hres := hm.reservation_eq_none (by simp [hmode])
      refine TasksOk.answer (hs.started (k := .holdScan) (· = .coilSurvey) (not_running hidle) ?_ (fun q k hq => ?_)
        fun q k => ?_) ..
      · rw [beginHold_slot, if_pos rfl]
      · rw [beginHold_slot, if_neg hq, hs.cancelActive_running hmode hres]
      · cases k <;> simp [State.Begun, hmode, hres, eq_comm]
    all_goals exact hs.answer ..

theorem TasksOk.execCoilSurvey {p : Port} {kind profile : Byte} {s t : State} (hs : TasksOk s)
    (h : execCoilSurvey p kind profile s = .next t) : TasksOk t := by
  refine request_keeps h (hs.drivesZero p) ?_
  repeat' split
  case h_2.isFalse.isFalse.isFalse hidle _ _ _ hmode hres _ =>
    refine TasksOk.answer (hs.started (k := .coilSurvey) (fun _ => False) (not_running hidle) ?_ (fun q k hq => ?_)
      fun q k => ?_) ..
    · rw [startTask_slot, if_pos rfl]
    · rw [startTask_slot, if_neg hq, port_update, not_false_iff, and_true]
    · have hnone : s.control.reservation = none := by simpa using hres
      have hscan : s.control.mode = .scanning := by simpa using hmode
      cases k <;> simp [State.Begun, hnone, hscan, eq_comm]
  all_goals exact hs.answer ..

theorem TasksOk.execResumeScan {p : Port} {s t : State} (hs : TasksOk s) (hm : ModeOk s)
    (h : execResumeScan p s = .next t) : TasksOk t := by
  refine request_keeps h (hs.drivesZero p) ?_
  split
  · next hheld =>
    split
    · exact (hs.endHeld hheld (hm.reservation_eq_none (by simp [hheld]))).answer ..
    · exact hs.answer ..
  · exact hs.answer ..

/-- What a port owned is dropped; what the other owns stays. -/
theorem map_drop_eq_some {α : Type} (f : α → Port) (o : Option α) (p q : Port) :
    (if o.map f = some p then none else o).map f = some q ↔ o.map f = some q ∧ ¬ q = p := by
  split
  · next h => simp [h, eq_comm]
  · next h =>
    rw [iff_self_and]
    rintro hq rfl
    exact h hq

/-- A port that is reset and leaves the mode it owns leaves its task too; the other port's tasks stand (R136). -/
theorem TasksOk.portReset {s t : State} {p : Port} (hs : TasksOk s)
    (hslot : ∀ q, (t.port q).slot = ((s.portReset p).port q).slot) (hframe : t.frame = (s.portReset p).frame)
    (hres : t.control.reservation = (s.portReset p).control.reservation)
    (hmode : ∀ q m, t.control.mode = m ∧ t.control.owner = some q ↔
      (s.control.mode = m ∧ s.control.owner = some q) ∧ ¬ q = p) : TasksOk t := by
  refine hs.ended (fun q _ => q = p) (fun q k => ?_) fun q k => ?_
  · rw [hslot, State.portReset, port_setPort]
    split <;> simp_all [PortState.resetTo]
  · cases k with
    | setPlan =>
      rw [begun_setPlan, begun_setPlan, hframe, State.portReset, setPort_frame]
      exact map_drop_eq_some ..
    | holdScan => exact hmode q .holding
    | coilSurvey =>
      rw [begun_coilSurvey, begun_coilSurvey, hmode, hres, State.portReset, setPort_control, map_drop_eq_some, or_and_right]

/-- PORT_RESET leaves the mode that its port owns, and the scan resumes where that was HELD (R136, R153, R157). -/
theorem TasksOk.resetMode {s : State} (hs : TasksOk s) (hm : ModeOk s) (p : Port) :
    TasksOk ((s.portReset p).resetMode p) := by
  by_cases howner : s.control.owner = some p
  · have hleft : TasksOk ((s.portReset p).backToScanning.raise .modeChanged p.other) :=
      hs.portReset (p := p) (by simp) (by simp) (by simp) (by simp [howner, eq_comm])
    have howned : s.control.mode.owned = true := by rw [← hm.owner, howner]; rfl
    cases hmode : s.control.mode with
    | starting | scanning => simp [hmode, Mode.owned] at howned
    | holding | survey => rwa [resetMode_of_running (by simpa [State.portReset]) (by simp [State.portReset, hmode])]
    | held =>
      rw [resetMode_of_held (by simpa [State.portReset]) (by simpa [State.portReset])]
      exact hleft.resume (by simp)
  · rw [resetMode_of_not_owner (by simpa [State.portReset])]
    refine hs.portReset (fun _ => rfl) rfl rfl fun q m => ?_
    rw [State.portReset, setPort_control, iff_self_and]
    rintro ⟨-, hq⟩ rfl
    exact howner hq

theorem TasksOk.execPortReset {p : Port} {s t : State} (hs : TasksOk s) (hm : ModeOk s) (h : execPortReset p s = .next t) :
    TasksOk t := by
  refine request_keeps h (hs.drivesZero p) ?_
  dsimp only
  rw [resetCapture_portReset]
  exact (hs.resetMode hm p).answer ..

/-! ## Every command -/

/-- Every command keeps each task slot RUNNING exactly while what its task began stands. -/
theorem TasksOk.exec {c : Instr} {s t : State} (hs : TasksOk s) (hm : ModeOk s) (h : exec c s = .next t) : TasksOk t := by
  cases hp : Machine.ownPort c with
  | some p => exact hs.ownPort hp h
  | none =>
    cases hq : settingsPort c with
    | some p =>
      exact exec_settingsPort_keeps hq h (hs.drivesZero p) (fun _ _ => hs.answer ..) (fun _ _ _ => hs.changeSetting ..)
    | none =>
    have hres := hm.reservation
    cases c <;> simp only [Machine.ownPort, settingsPort, reduceCtorEq] at hp hq
    case setView =>
      refine request_keeps (show execSetView _ _ s = .next t from h) (hs.drivesZero _) ?_
      split
      · exact hs.answer ..
      · refine TasksOk.answer (hs.setPort ?_) ..
        rfl
    case abortTask => exact hs.execAbortTask hm h
    case setPlan => exact hs.execSetPlan h
    case setGrid p x y =>
      refine request_keeps (show execSetGrid p x y s = .next t from h) (hs.drivesZero _) ?_
      repeat' split
      all_goals exact hs.same (by simp [TasksSame])
    case holdScan => exact hs.execHoldScan hm h
    case resumeScan => exact hs.execResumeScan hm h
    case coilSurvey => exact hs.execCoilSurvey h
    case readCapture p offset count unlock =>
      refine request_keeps (show execReadCapture p offset count unlock s = .next t from h) (hs.drivesZero _) ?_
      repeat' split
      all_goals exact hs.same (by simp [TasksSame])
    case portReset => exact hs.execPortReset hm h
    case coldRestart p =>
      have hcold : TasksOk s.restartCold := TasksOk.restart rfl rfl (by rintro (_ | _) <;> rfl)
      exact request_keeps (show execColdRestart p s = .next t from h) (hs.drivesZero p) (hcold.drivesZero p)
    case warmRestart p =>
      have hwarm : TasksOk s.restartWarm := TasksOk.restart rfl rfl (by rintro (_ | _) <;> rfl)
      exact request_keeps (show execWarmRestart p s = .next t from h) (hs.drivesZero p) (hwarm.drivesZero p)
    case scheduledFrameStart =>
      rcases execScheduledFrameStart_next h with rfl | ⟨-, rfl⟩
      · exact hs
      · exact (hs.elapse _).frameStart hres
    case midPoint =>
      rcases execMidPoint_next h with rfl | ⟨u, rfl, rfl⟩
      · exact hs
      · exact hs.same (by simp [TasksSame])
    case dsync =>
      rcases execDsync_next h with rfl | ⟨-, -, rfl⟩
      · exact hs
      · exact TasksOk.dsyncPulse hm hs
    case syncTimerExpiry =>
      rcases execSyncTimerExpiry_next h with rfl | ⟨d, -, rfl⟩
      · exact hs
      · exact hs.same (by simp [TasksSame])
    case slotBegin =>
      rcases execSlotBegin_next h with rfl | ⟨k, -, rfl⟩
      · exact hs
      · exact hs.beginSlot k hres
    case driveBusyFall =>
      rcases execDriveBusyFall_next h with rfl | ⟨k, j, -, rfl⟩
      all_goals exact hs.same (by simp [TasksSame, State.withBusy])
    case driveBusyRise =>
      have hhigh : TasksOk (s.withBusy true) := hs.same (by simp [TasksSame, State.withBusy])
      rcases execDriveBusyRise_next h with rfl | ⟨k, -, rfl⟩
      · exact hhigh
      · exact hhigh.endSlot k .cut hres
    case slipExpiry =>
      rcases execSlipExpiry_next h with rfl | ⟨k, d, -, rfl⟩
      · exact hs
      · exact (hs.elapse _).endSlot k .skipped hres
    case excitationEnd =>
      rcases execExcitationEnd_next h with rfl | ⟨u, run, d, -, rfl, rfl⟩
      · exact hs
      · exact hs.same (by simp [TasksSame])
    case listenEnd r =>
      rcases execListenEnd_next h with rfl | ⟨k, j, d, -, rfl⟩
      · exact hs
      · have hhanded : TasksOk ((s.untilFrame d).handOn j r) := hs.same (by simp [TasksSame])
        exact hhanded.endSlot k .done (by simpa using hres)
    case autoResumeExpiry =>
      rcases execAutoResumeExpiry_next h with rfl | ⟨d, n, hheld, rfl⟩
      · exact hs
      · exact (hs.elapse _).endHeld hheld (hm.reservation_eq_none (by simp [hheld]))
    case startingEnd =>
      rcases execStartingEnd_next h with rfl | ⟨d, hd, rfl⟩
      · exact hs
      · have hmode := hm.startup (by simp [hd])
        refine TasksOk.frameStart (hs.ended (fun _ _ => False) (fun q k => ?_) fun q k => ?_) (by simp [State.scanBegun])
        · simp [State.scanBegun]
        · cases k <;> simp [State.Begun, State.scanBegun, hmode]
    case keySample =>
      rcases execKeySample_next h with rfl | ⟨u, keys, changed, rfl, rfl⟩
      · exact hs
      · exact hs.same (by simp [TasksSame])
    case keyRestartHoldExpiry =>
      rcases execKeyRestartHoldExpiry_next h with rfl | ⟨u, d, rfl, rfl⟩
      · exact hs
      · exact TasksOk.restart rfl rfl (by rintro (_ | _) <;> rfl)
    case powerOn | resetNLow | resetNRise | powerFail =>
      rcases exec_power_next (by simp) h with rfl | ⟨u, rfl | rfl⟩
      · exact hs.same (by simp [TasksSame])
      all_goals exact TasksOk.restart rfl rfl (by rintro (_ | _) <;> rfl)

/-- Settles O13: with `ModeOk` before it, each command keeps `TasksOk`, case by case, and so does the passing of time. -/
theorem stepKeepsTasks : Obligations.StepKeepsTasks := by
  intro s t hm hs h
  rcases step_next h with ⟨-, rfl⟩ | ⟨c, rest, -, hc⟩
  · exact hs.elapse 1
  · exact TasksOk.exec (hs.same (by simp [TasksSame])) (hm.same (by simp +contextual [ModeSame])) hc

end Sys2Proof.Machine
end

section
/-! SUPPORT. The slot under way: its start, its slip, its excitation and its cut (R18, R26 to R30, R155). -/

namespace Sys2Proof.Machine

/-! ## SLOT_BEGIN (R26, R27, R30) -/

/-- The times of a slot of the plan are its record's (R18). -/
theorem slotTimes_of_plan {f : Frame} (k : Fin 8) (h : f.window = none) : f.slotTimes k =
    { start := f.activePlan[k].start.toNat, excite := f.activePlan[k].excite.toNat, listen := f.activePlan[k].listen.toNat,
      slip := f.activePlan[k].slip.toNat, guarded := f.activePlan[k].guard != 0 } := by
  simp only [Frame.slotTimes, h]

/-- The times of the survey window (R155). -/
theorem slotTimes_of_window {f : Frame} {w : SurveyWindow} (k : Fin 8) (h : f.window = some w) : f.slotTimes k =
    { start := 100, excite := if w.kind = .response then 200 else 0, listen := 200, slip := 0, guarded := true } := by
  simp only [Frame.slotTimes, h, Config.surveyStart, Config.surveyExcite, Config.surveyListen]

/-- The state at slot `k`'s Start, before it is known whether the slot runs: time has passed to the Start, a SEARCH slot
has moved the Search Cursor, the next slot is the frame's next non-IDLE one (R26, R39, log entries 2 and 23). -/
def State.slotReached (s : State) (k : Fin 8) : State :=
  let u := s.elapse ((s.frame.slotTimes k).start - s.frame.timer)
  { u with
    search := s.searchAtStart k
    frame := { u.frame with next := if s.frame.window.isSome then 8 else nextSlot s.frame.activePlan (k.val + 1) } }

/-- SLOT_BEGIN takes the frame's next slot (R26, log entry 23). -/
theorem exec_slotBegin {s : State} {k : Fin 8} (hphase : s.frame.phase = .running) (hrun : s.frame.run = .none)
    (hnext : s.frame.next = k.val) : exec .slotBegin s = .next (s.beginSlot k) := by
  have hlt : s.frame.next < 8 := hnext ▸ k.isLt
  have hk : (⟨s.frame.next, hlt⟩ : Fin 8) = k := Fin.ext hnext
  simp only [exec, execSlotBegin, hphase, hrun, hlt, and_self, if_true, dite_true, hk]

/-- A slot that is not needed ends NOT_NEEDED (R26). -/
theorem beginSlot_of_unneeded {s : State} {k : Fin 8} (h : s.slotJob k = none) :
    s.beginSlot k = (s.slotReached k).endSlot k .notNeeded := by
  simp only [State.beginSlot, h]
  rfl

/-- A needed slot runs from its Start when it is not guarded or DRIVE_BUSY is low (R27, R30). -/
theorem beginSlot_of_free {s : State} {k : Fin 8} {j : Job} (h : s.slotJob k = some j)
    (hfree : (s.frame.slotTimes k).guarded = false ∨ s.pins.driveBusy = false) :
    s.beginSlot k = (s.slotReached k).beginRun k j := by
  have hgo : ((s.frame.slotTimes k).guarded && s.pins.driveBusy) = false := by
    rcases hfree with hf | hf <;> simp [hf]
  simp only [State.beginSlot, h, hgo]
  rfl

/-- A needed, guarded slot that finds DRIVE_BUSY high waits out its slip, or with none ends SKIPPED (R27). -/
theorem beginSlot_of_busy {s : State} {k : Fin 8} {j : Job} (h : s.slotJob k = some j)
    (hguarded : (s.frame.slotTimes k).guarded = true) (hbusy : s.pins.driveBusy = true) :
    s.beginSlot k =
      if (s.frame.slotTimes k).slip = 0 then (s.slotReached k).endSlot k .skipped
      else { s.slotReached k with frame := { (s.slotReached k).frame with run := .waiting k j } } := by
  simp only [State.beginSlot, h, hguarded, hbusy]
  rfl

/-- While a frame runs, the frame timer at a slot's Start reads the Start, or what it read when it had passed it. -/
theorem slotReached_timer {s : State} (k : Fin 8) (h : s.frame.phase = .running) :
    (s.slotReached k).frame.timer = max s.frame.timer (s.frame.slotTimes k).start := by
  simp only [State.slotReached, State.elapse, h, reduceCtorEq, if_false]
  omega

/-- A run with an excitation begins with it (R27). -/
theorem beginRun_exciting (s : State) {k : Fin 8} (j : Job) (h : (s.frame.slotTimes k).excite ≠ 0) :
    s.beginRun k j = { s with frame := { s.frame with run := .exciting k j s.frame.timer } } := by
  rw [State.beginRun, if_neg h]

/-- A run without an excitation begins with its listen phase (R28). -/
theorem beginRun_listening (s : State) {k : Fin 8} (j : Job) (h : (s.frame.slotTimes k).excite = 0) :
    s.beginRun k j = { s with frame := { s.frame with run := .listening k j s.frame.timer } } := by
  rw [State.beginRun, if_pos h]

/-- Settles O44: the times by the frame's window, the slot's order by `nextSlot_spec`, the start by `beginSlot_of_*`. -/
theorem slotBeginRunsWaitsOrEnds : Obligations.SlotBeginRunsWaitsOrEnds := by
  refine ⟨fun f k => ⟨slotTimes_of_plan k, fun w => slotTimes_of_window k⟩, nextSlot_spec, ?_⟩
  intro s k hphase hrun hnext w at_ begun runs
  have hexec := exec_slotBegin hphase hrun hnext
  refine ⟨fun hjob => ?_, fun j hjob => ⟨fun hfree hexcite => ?_, fun hfree hexcite => ?_, fun hguarded hbusy hslip => ?_,
    fun hguarded hbusy hslip => ?_⟩⟩
  · rw [hexec, beginSlot_of_unneeded hjob]
    rfl
  · simp only [runs]
    rw [hexec, beginSlot_of_free hjob hfree, beginRun_exciting (s.slotReached k) j hexcite, slotReached_timer k hphase]
    rfl
  · simp only [runs]
    rw [hexec, beginSlot_of_free hjob hfree, beginRun_listening (s.slotReached k) j hexcite, slotReached_timer k hphase]
    rfl
  · simp only [runs]
    rw [hexec, beginSlot_of_busy hjob hguarded hbusy, if_neg hslip]
    rfl
  · rw [hexec, beginSlot_of_busy hjob hguarded hbusy, if_pos hslip]
    rfl

/-! ## The slot under way (R27 to R30) -/

/-- DRIVE_BUSY_FALL on a waiting slot: within its slip the slot runs, past it only the level changes (R27). -/
theorem exec_driveBusyFall_waiting {s : State} {k : Fin 8} {j : Job} (h : s.frame.run = .waiting k j) :
    exec .driveBusyFall s = .next
      (if s.frame.timer ≤ (s.frame.slotTimes k).start + (s.frame.slotTimes k).slip then (s.withBusy false).beginRun k j
       else s.withBusy false) := by
  simp only [exec, execDriveBusyFall, h]
  rfl

/-- DRIVE_BUSY_FALL with no slot waiting, or after the slip of the one that waits (R27). -/
theorem exec_driveBusyFall_idle {s : State}
    (h : ∀ k j, s.frame.run = .waiting k j → (s.frame.slotTimes k).start + (s.frame.slotTimes k).slip < s.frame.timer) :
    exec .driveBusyFall s = .next (s.withBusy false) := by
  cases hrun : s.frame.run with
  | waiting k j => rw [exec_driveBusyFall_waiting hrun, if_neg (Nat.not_le.2 (h k j hrun))]
  | none | exciting | listening =>
    simp only [exec, execDriveBusyFall, hrun]
    rfl

/-- DRIVE_BUSY_RISE on a slot in excitation or listening: a guarded one ends CUT (R29). -/
theorem exec_driveBusyRise_running {s : State} {k : Fin 8} {j : Job} {since : Nat}
    (h : s.frame.run = .exciting k j since ∨ s.frame.run = .listening k j since) :
    exec .driveBusyRise s = .next
      (if (s.frame.slotTimes k).guarded then (s.withBusy true).endSlot k .cut else s.withBusy true) := by
  rcases h with h | h
  all_goals
    simp only [exec, execDriveBusyRise, h]
    rfl

/-- DRIVE_BUSY_RISE with no slot driving or listening: only the level changes (R29). -/
theorem exec_driveBusyRise_idle {s : State} {k : Fin 8} {j : Job} (h : s.frame.run = .none ∨ s.frame.run = .waiting k j) :
    exec .driveBusyRise s = .next (s.withBusy true) := by
  rcases h with h | h
  all_goals
    simp only [exec, execDriveBusyRise, h]
    rfl

/-- Settles O46: each event on the slot it finds under way. -/
theorem slotUnderWay : Obligations.SlotUnderWay := by
  intro s k j since w low high
  refine ⟨fun hrun hintime hexcite => ?_, fun hrun hintime hexcite => ?_, exec_driveBusyFall_idle, fun hrun hguarded => ?_,
    fun hrun hguarded => ?_, exec_driveBusyRise_idle, fun hrun => ?_, fun hrun => ?_⟩
  · rw [exec_driveBusyFall_waiting hrun, if_pos hintime, beginRun_exciting (s.withBusy false) j hexcite]
    rfl
  · rw [exec_driveBusyFall_waiting hrun, if_pos hintime, beginRun_listening (s.withBusy false) j hexcite]
    rfl
  · rw [exec_driveBusyRise_running hrun, if_pos hguarded]
    rfl
  · rw [exec_driveBusyRise_running hrun, if_neg (Bool.eq_false_iff.1 hguarded)]
    rfl
  · simp only [exec, execSlipExpiry, hrun]
    rfl
  · simp only [exec, execExcitationEnd, hrun]
    rfl

end Sys2Proof.Machine
end

section
/-! SUPPORT. The task requests: READ_TASK_RESULT, ABORT_TASK, SET_PLAN (R19, R22, R23, R25, R126 to R129). -/

namespace Sys2Proof.Machine

/-! ## Ports -/

theorem eq_other_of_ne {p q : Port} (h : q ≠ p) : q = p.other := by
  revert h
  cases p <;> cases q <;> simp [Port.other]

/-- An answer after its port's items were written (R121, R123). -/
theorem setPort_answer (s : State) (p : Port) (ps : PortState) (code : Byte) (r : ResultCode) (pl : List Byte) :
    (s.setPort p ps).answer p code r pl = s.setPort p { ps with sent := [], store := forming code r pl } := by
  cases p <;> rfl

/-- A running task completes outside STARTING: its result in its slot, TaskDone at its port, nothing else (R127). -/
theorem completeTask_eq {s : State} {p : Port} {k : TaskKind} (r : ResultCode) (h : s.control.mode ≠ .starting)
    (hrun : (s.port p).slot = .running k) : s.completeTask p k r =
      s.setPort p { s.port p with slot := .completed k r, events := Event.addTo .taskDone (s.port p).events } := by
  rw [State.completeTask, if_pos hrun, State.raise, setPort_control, if_neg h, setPort_setPort, port_setPort_self]

/-- An event raised at both ports outside STARTING (R130). -/
theorem raiseBoth_eq {s : State} (e : Event) (p : Port) (h : s.control.mode ≠ .starting) : s.raiseBoth e =
    (s.setPort p.other { s.port p.other with events := Event.addTo e (s.port p.other).events }).setPort p
      { s.port p with events := Event.addTo e (s.port p).events } := by
  cases p <;> simp [State.raiseBoth, State.raise, h, State.setPort, State.port, Port.other]

/-! ## READ_TASK_RESULT (R128) -/

/-- A slot that holds no result keeps its state when it is reported (R128). -/
theorem collected_of_not_completed {x : TaskSlot} (h : ∀ k r, x ≠ .completed k r) : x.collected = x := by
  cases x with
  | completed k r => exact absurd rfl (h k r)
  | empty | running => rfl

theorem exec_readTaskResult {p : Port} {s : State} (h : s.control.mode ≠ .starting) : exec (.readTaskResult p) s =
    .next (s.setPort p { s.port p with
      slot := (s.port p).slot.collected, sent := [], store := forming 0x30 .ok (taskBytes (s.port p).slot) }) := by
  simp only [exec, execReadTaskResult, request_eq h, setPort_answer]

/-! ## ABORT_TASK (R25, R129, R153, R157) -/

theorem exec_abortTask_idle {p : Port} {s : State} (h : s.control.mode ≠ .starting)
    (hidle : ∀ k, (s.port p).slot ≠ .running k) :
    exec (.abortTask p) s = .next (s.setPort p { s.port p with sent := [], store := forming 0x31 .rejected [] }) := by
  simp only [exec, execAbortTask, request_eq h]
  split
  · next k hk => exact absurd hk (hidle k)
  all_goals rfl

/-- An abort completes the port's running task with ABORTED in the state `u` that undoes what the task began. -/
theorem exec_abortTask_running {p : Port} {s u : State} {k : TaskKind} (h : s.control.mode ≠ .starting)
    (hk : (s.port p).slot = .running k) (hundo : s.undoTask p k = u) (hu : u.control.mode ≠ .starting) :
    exec (.abortTask p) s = .next (u.setPort p { u.port p with
      slot := .completed k .aborted
      events := Event.addTo .taskDone (u.port p).events
      sent := []
      store := forming 0x31 .ok [] }) := by
  have hrun : (u.port p).slot = .running k := by rw [← hundo, undoTask_port_slot, hk]
  simp only [exec, execAbortTask, request_eq h, hk, hundo, completeTask_eq _ hu hrun, setPort_answer]

/-- An aborted plan is pending no more (R25). -/
theorem undoTask_setPlan_eq {s : State} {p : Port} (h : s.frame.pendingPlan.map (·.issuer) = some p) :
    s.undoTask p .setPlan = { s with frame := { s.frame with pendingPlan := none } } := by
  rw [undoTask_setPlan, dropPlanOf_eq, if_pos h]

/-- An aborted hold or active survey leaves SCANNING with no owner and raises ModeChanged at both ports (R153, R157). -/
theorem undoTask_owned_eq {s : State} {p : Port} {k : TaskKind} (hm : ModeOk s) (howner : s.control.owner = some p)
    (h : (k = .holdScan ∧ s.control.mode = .holding) ∨ (k = .coilSurvey ∧ s.control.mode = .survey)) :
    s.undoTask p k = State.raiseBoth { s with control := { s.control with
      mode := .scanning, owner := none, survey := none } } .modeChanged := by
  have hauto : s.control.autoResume = none := hm.autoResume_eq_none (by rcases h with ⟨-, h⟩ | ⟨-, h⟩ <;> simp [h])
  have hback : s.backToScanning
      = { s with control := { s.control with mode := .scanning, owner := none, survey := none } } := by
    simp [State.backToScanning, hauto]
  rcases h with ⟨rfl, hmode⟩ | ⟨rfl, hmode⟩
  · rw [undoTask_holdScan, if_pos (by simp [State.ownsMode, hmode, howner]), hback]
  · rw [undoTask_coilSurvey, if_pos (by simp [State.ownsMode, hmode, howner]), hback]

/-- An aborted survey that still waits waits no more (R157). -/
theorem undoTask_waiting_eq {s : State} {p : Port} (h : s.control.reservation.map (·.port) = some p)
    (hmode : s.control.mode ≠ .survey) :
    s.undoTask p .coilSurvey = { s with control := { s.control with reservation := none } } := by
  rw [undoTask_coilSurvey, if_neg (by simp [State.ownsMode, hmode]), dropReservationOf_eq, if_pos h]

/-- Settles O25: the slot's three states, and the abort of each kind by what `undoTask` undoes of it. -/
theorem taskResultAndAbort : Obligations.TaskResultAndAbort := by
  intro p s hm hs hstarting
  have hread := exec_readTaskResult (p := p) hstarting
  have hkept := collected_of_not_completed (x := (s.port p).slot)
  refine ⟨fun hslot => ?_, fun k hslot => ?_, fun k r hslot => ?_, exec_abortTask_idle hstarting, fun hslot => ?_,
    fun k hkind hslot => ?_, fun hslot hmode => ?_⟩
  · have hbytes : taskBytes (s.port p).slot = [0, 0, 0, 0, 0] := by rw [hslot]; rfl
    rw [hread, hkept (by simp [hslot]), hbytes]
  · have hbytes : taskBytes (s.port p).slot = [1, 1] ++ u8 k.num ++ [0, 0] := by rw [hslot]; rfl
    rw [hread, hkept (by simp [hslot]), hbytes]
  · rw [hread, hslot]
    rfl
  · rw [exec_abortTask_running hstarting hslot (undoTask_setPlan_eq ((hs.setPlan p).1 hslot)) hstarting, port_update]
  · have hstands : (k = .holdScan ∧ s.control.mode = .holding) ∨ (k = .coilSurvey ∧ s.control.mode = .survey) := by
      rcases hkind with rfl | hactive
      · exact .inl ⟨rfl, ((hs.holdScan p).1 hslot).1⟩
      · exact .inr hactive
    have howner : s.control.owner = some p := by
      rcases hstands with ⟨rfl, -⟩ | ⟨rfl, hmode⟩
      · exact ((hs.holdScan p).1 hslot).2
      · simpa [hmode, hm.reservation_eq_none] using (hs.coilSurvey p).1 hslot
    have hundo := undoTask_owned_eq hm howner hstands
    rw [raiseBoth_eq _ p (by simp)] at hundo
    rw [exec_abortTask_running hstarting hslot hundo (by simp)]
    simp
  · have hwaits : s.control.reservation.map (·.port) = some p := by
      simpa [hmode] using (hs.coilSurvey p).1 hslot
    rw [exec_abortTask_running hstarting hslot (undoTask_waiting_eq hwaits hmode) hstarting, port_update]

/-! ## SET_PLAN (R19, R22, R23) -/

theorem supersede_of_none {s : State} (h : s.frame.pendingPlan = none) : s.supersede = s := by
  simp only [State.supersede, h]

/-- A plan of the other port that is superseded completes its task there (R23). -/
theorem supersede_of_some {s : State} {q : PendingPlan} (hs : TasksOk s) (hmode : s.control.mode ≠ .starting)
    (h : s.frame.pendingPlan = some q) : s.supersede = s.setPort q.issuer { s.port q.issuer with
      slot := .completed .setPlan .superseded
      events := Event.addTo .taskDone (s.port q.issuer).events } := by
  simp only [State.supersede, h]
  exact completeTask_eq _ hmode ((hs.setPlan q.issuer).2 (by simp [h]))

theorem isRunning_of_running {x : TaskSlot} {k : TaskKind} (h : x = .running k) : x.isRunning = true := by
  rw [h, TaskSlot.isRunning]

theorem not_isRunning {x : TaskSlot} (h : ∀ k, x ≠ .running k) : ¬ x.isRunning = true := by
  cases x with
  | running k => exact absurd rfl (h k)
  | empty | completed => simp [TaskSlot.isRunning]

/-- A valid plan from a port with no running task is taken: it supersedes the plan that is pending (R22, R23, R126). -/
theorem exec_setPlan_taken {p : Port} {plan : Plan} {s : State} (h : s.control.mode ≠ .starting)
    (hidle : ∀ k, (s.port p).slot ≠ .running k) (hvalid : planValid s.nextFramePeriod plan = true) :
    exec (.setPlan p plan) s = .next (({ s.supersede with
      frame := { s.frame with pendingPlan := some { plan, issuer := p } } }.startTask p .setPlan).answer
        p 0x38 .taken []) := by
  simp only [exec, execSetPlan, request_eq h, if_neg (not_isRunning hidle), hvalid, if_true, supersede_frame]

/-- Settles O26: the slot and the plan's validity decide; a plan pending while the port has no task is the other's. -/
theorem setPlanTakenOrRefused : Obligations.SetPlanTakenOrRefused := by
  intro p plan s hs hstarting
  refine ⟨fun ⟨k, hk⟩ => ?_, fun hidle hinvalid => ?_, fun hidle hvalid => ?_⟩
  · simp only [exec, execSetPlan, request_eq hstarting, isRunning_of_running hk, if_true]
    rfl
  · simp only [exec, execSetPlan, request_eq hstarting, if_neg (not_isRunning hidle), hinvalid, Bool.false_eq_true,
      if_false]
    rfl
  · rw [exec_setPlan_taken hstarting hidle hvalid]
    refine ⟨fun hnone => ?_, fun q hq => ?_⟩
    · rw [supersede_of_none hnone]
      cases p <;> rfl
    · have hother : q.issuer = p.other :=
        eq_other_of_ne fun hp => hidle .setPlan ((hs.setPlan p).2 (by simp [hq, hp]))
      rw [supersede_of_some hs hstarting hq, hother]
      cases p <;> rfl

end Sys2Proof.Machine
end

section
/-! SUPPORT. What a valid plan is, slot by slot (R18, R19, R176). -/

namespace Sys2Proof.Machine

/-! ## The fields of a slot record -/

theorem flagOf_isSome (b : Byte) : (flagOf b).isSome = true ↔ b.toNat ≤ 1 := by
  have hle : b.toNat ≤ 1 ↔ b = 0 ∨ b = 1 := by bv_omega
  rw [hle, flagOf]
  split
  · next h => simp [h]
  · next h0 =>
    split
    · next h1 => simp [h1]
    · next h1 => exact iff_of_false (by simp) (by simp only [h0, h1, or_self, not_false_iff])

theorem toolByte_iff (b : Byte) : (b == 0 || b == 1) = true ↔ b.toNat ≤ 1 := by
  rw [Bool.or_eq_true, beq_iff_eq, beq_iff_eq]
  bv_omega

/-- The fields of a slot record that is not IDLE are in their ranges (R18, R19, R176). -/
def SlotInRange (r : SlotRecord) : Prop :=
  r.function.toNat ≤ 5 ∧ r.start.toNat ≤ 10000 ∧ 10 ≤ r.listen.toNat ∧ r.listen.toNat ≤ 400 ∧ r.slip.toNat ≤ 500
    ∧ r.guard.toNat ≤ 1 ∧ (r.function = 5 → r.excite = 0)
    ∧ (r.function ≠ 5 → 10 ≤ r.excite.toNat ∧ r.excite.toNat ≤ 400)
    ∧ (2 ≤ r.function.toNat → r.function.toNat ≤ 4 → r.tool.toNat ≤ 1)

/-- The ranges that a slot record's function does not enter into. -/
theorem slotFields_iff (r : SlotRecord) : (within 0 10000 r.start.toNat && within 10 400 r.listen.toNat
      && within 0 500 r.slip.toNat && (flagOf r.guard).isSome) = true
    ↔ r.start.toNat ≤ 10000 ∧ 10 ≤ r.listen.toNat ∧ r.listen.toNat ≤ 400 ∧ r.slip.toNat ≤ 500 ∧ r.guard.toNat ≤ 1 := by
  simp only [Bool.and_eq_true, within_iff, flagOf_isSome, Nat.zero_le, true_and, and_assoc]

theorem slotValid_iff {r : SlotRecord} (hr : r.function ≠ 0) : slotValid r = true ↔ SlotInRange r := by
  by_cases hle : r.function.toNat ≤ 5
  · have hf : r.function = 1 ∨ r.function = 5 ∨ r.function = 2 ∨ r.function = 3 ∨ r.function = 4 := by bv_omega
    unfold slotValid SlotInRange
    rcases hf with hf | hf | htool
    · rw [functionOf_search hf]
      dsimp only
      rw [Bool.and_eq_true, Bool.and_eq_true, slotFields_iff, within_iff]
      simp [hf, and_assoc]
    · rw [functionOf_noise hf]
      dsimp only
      rw [Bool.and_eq_true, Bool.and_eq_true, slotFields_iff, beq_iff_eq]
      simp [hf, and_assoc]
    · rcases htool with hf | hf | hf
      all_goals
        simp only [functionOf_track, functionOf_tilt, functionOf_code, hf]
        rw [Bool.and_eq_true, Bool.and_eq_true, slotFields_iff, within_iff, toolByte_iff]
        simp [and_assoc]
  · refine iff_of_false (fun h => hle ?_) fun h => hle h.1
    rcases function_of_slotValid h hr with hf | hf | hf | hf | hf <;> simp [hf]

/-! ## The order of the slots -/

/-- Slot record `b` starts after `a` does, and not before `a`'s reserved end (R19). -/
def Follows (a b : SlotRecord) : Prop := a.start.toNat < b.start.toNat ∧ reservedEnd a ≤ b.start.toNat

theorem start_le_reservedEnd (r : SlotRecord) : r.start.toNat ≤ reservedEnd r := by
  unfold reservedEnd
  omega

theorem Follows.trans {a b c : SlotRecord} (hab : Follows a b) (hbc : Follows b c) : Follows a c :=
  ⟨hab.1.trans hbc.1, hab.2.trans hbc.1.le⟩

theorem Follows.reservedEnd_le {a b : SlotRecord} (h : Follows a b) : reservedEnd a ≤ reservedEnd b :=
  h.2.trans (start_le_reservedEnd b)

/-- Each slot follows the one before: then each follows every earlier one (R19). -/
theorem slotsOrdered_iff_isChain : ∀ l : List SlotRecord, slotsOrdered l = true ↔ l.IsChain Follows
  | [] => by simp [slotsOrdered]
  | [_] => by simp [slotsOrdered]
  | a :: b :: rest => by
    rw [slotsOrdered, List.isChain_cons_cons, Bool.and_eq_true, Bool.and_eq_true, slotsOrdered_iff_isChain (b :: rest),
      decide_eq_true_eq, decide_eq_true_eq, Follows]

theorem slotsOrdered_iff (l : List SlotRecord) : slotsOrdered l = true ↔ l.Pairwise Follows := by
  have htrans : IsTrans SlotRecord Follows := ⟨fun _ _ _ => Follows.trans⟩
  rw [slotsOrdered_iff_isChain, List.isChain_iff_pairwise]

/-- Where slots follow one another the last one's reserved end is the greatest, so that it alone bounds them all (R19). -/
theorem planFits_iff {framePeriod : Nat} {p : Plan} (h : (activeSlots p).Pairwise Follows) :
    planFits framePeriod p = true ↔ ∀ r ∈ activeSlots p, reservedEnd r + Config.planMargin ≤ framePeriod := by
  unfold planFits
  cases hlast : (activeSlots p).getLast? with
  | none => simp [List.getLast?_eq_none_iff.1 hlast]
  | some r =>
    obtain ⟨init, hinit⟩ := List.getLast?_eq_some_iff.1 hlast
    rw [hinit, List.pairwise_append] at h
    obtain ⟨-, -, hfollows⟩ := h
    simp only [hinit, List.mem_append, List.mem_singleton, decide_eq_true_eq]
    refine ⟨fun hfits a ha => ?_, fun hall => hall r (.inr rfl)⟩
    rcases ha with ha | rfl
    · have hend := (hfollows a ha r (List.mem_singleton_self r)).reservedEnd_le
      omega
    · exact hfits

/-! ## The slots of a plan that are not IDLE -/

theorem isIdle_iff (r : SlotRecord) : isIdle r = true ↔ r.function = 0 := beq_iff_eq

theorem forall_activeSlots {p : Plan} {P : SlotRecord → Prop} :
    (∀ r ∈ activeSlots p, P r) ↔ ∀ k : Fin 8, p[k].function ≠ 0 → P p[k] := by
  simp only [activeSlots, List.mem_filter, Bool.not_eq_true', Bool.eq_false_iff, ne_eq, isIdle_iff, and_imp]
  refine ⟨fun h k hk => h _ (by simp) hk, fun h r hr hused => ?_⟩
  obtain ⟨n, hn, rfl⟩ := List.getElem_of_mem hr
  exact h ⟨n, by simpa using hn⟩ hused

theorem activeSlots_pairwise {p : Plan} {R : SlotRecord → SlotRecord → Prop} : (activeSlots p).Pairwise R ↔
    ∀ j k : Fin 8, p[j].function ≠ 0 → p[k].function ≠ 0 → j < k → R p[j] p[k] := by
  rw [activeSlots, List.pairwise_filter, List.pairwise_iff_getElem]
  simp only [Bool.not_eq_true', Bool.eq_false_iff, ne_eq, isIdle_iff]
  exact ⟨fun h j k hj hk hlt => h j k (by simp) (by simp) hlt hj hk,
    fun h i j hi hj hlt hused hused' => h ⟨i, by simpa using hi⟩ ⟨j, by simpa using hj⟩ hused hused' hlt⟩

theorem activeSlots_ne_nil {p : Plan} : (activeSlots p).isEmpty = false ↔ ∃ k : Fin 8, p[k].function ≠ 0 := by
  have hnone := forall_activeSlots (p := p) (P := fun _ => False)
  rw [← List.eq_nil_iff_forall_not_mem] at hnone
  rw [Bool.eq_false_iff, ne_eq, List.isEmpty_iff, hnone, not_forall]
  simp only [Classical.not_imp, not_false_iff, and_true]

/-- A plan is valid exactly when it has a slot, its slots are in range and end in time, and each follows those before it. -/
theorem planValid_iff (framePeriod : Nat) (p : Plan) : planValid framePeriod p = true ↔
    (∃ k : Fin 8, p[k].function ≠ 0)
    ∧ (∀ k : Fin 8, p[k].function ≠ 0 → SlotInRange p[k] ∧ reservedEnd p[k] + Config.planMargin ≤ framePeriod)
    ∧ ∀ j k : Fin 8, p[j].function ≠ 0 → p[k].function ≠ 0 → j < k → Follows p[j] p[k] := by
  have hvalid : (activeSlots p).all slotValid = true ↔ ∀ k : Fin 8, p[k].function ≠ 0 → SlotInRange p[k] := by
    rw [List.all_eq_true, forall_activeSlots]
    exact forall₂_congr fun k hk => slotValid_iff hk
  rw [planValid, Bool.and_eq_true, Bool.and_eq_true, Bool.and_eq_true, Bool.not_eq_true', activeSlots_ne_nil, hvalid,
    slotsOrdered_iff, ← activeSlots_pairwise]
  constructor
  · rintro ⟨⟨⟨hused, hrange⟩, hfollows⟩, hfits⟩
    rw [planFits_iff hfollows, forall_activeSlots] at hfits
    exact ⟨hused, fun k hk => ⟨hrange k hk, hfits k hk⟩, hfollows⟩
  · rintro ⟨hused, hslots, hfollows⟩
    rw [planFits_iff hfollows, forall_activeSlots]
    exact ⟨⟨⟨hused, fun k hk => (hslots k hk).1⟩, hfollows⟩, fun k hk => (hslots k hk).2⟩

/-- Settles O27: `planValid_iff`, the fields spelled out. -/
theorem planValidity : Obligations.PlanValidity := by
  intro framePeriod plan
  rw [planValid_iff]
  refine and_congr Iff.rfl (and_congr (forall₂_congr fun k _ => ?_) Iff.rfl)
  simp only [SlotInRange, and_assoc]
  rfl

end Sys2Proof.Machine
end

section
/-! SUPPORT. SET_GRID in HELD (R32, R38, R120, R143, R145). -/

namespace Sys2Proof.Machine

/-- The lowest enabled profile, or P0 when none is enabled (R38). -/
theorem lowestEnabled_spec (ps : Vector Profile 4) :
    (ps[lowestEnabled ps].enabled = true ∧ ∀ j : Fin 4, j < lowestEnabled ps → ¬ ps[j].enabled = true)
    ∨ (lowestEnabled ps = 0 ∧ ∀ j : Fin 4, ¬ ps[j].enabled = true) := by
  have hdef : lowestEnabled ps = ((List.finRange 4).find? fun j => ps[j].enabled).getD 0 := by
    rw [lowestEnabled, show List.finRange 4 = [0, 1, 2, 3] by decide]
  cases hfind : (List.finRange 4).find? fun j => ps[j].enabled with
  | none =>
    rw [List.find?_eq_none] at hfind
    exact .inr ⟨by rw [hdef, List.find?_eq_none.2 hfind]; rfl, fun j => hfind j (List.mem_finRange j)⟩
  | some i =>
    have hlowest : lowestEnabled ps = i := by rw [hdef, hfind]; rfl
    subst hlowest
    obtain ⟨henabled, n, hn, hget, hbefore⟩ := List.find?_eq_some_iff_getElem.1 hfind
    refine .inl ⟨henabled, fun j hj => ?_⟩
    have hval : (lowestEnabled ps).val = n := by simp [← hget]
    have hlt : j.val < n := hval ▸ hj
    simpa using hbefore j.val hlt

/-- What a Set Grid leaves, whole (R32, R38, R120, R143, R145). -/
theorem applyGrid_eq {s : State} {p : Port} (x y : Nat) (h : s.control.mode ≠ .starting) : s.applyGrid p x y =
    (State.setPort { s with
        settings := { s.settings with xCount := x, yCount := y }
        epoch := s.epoch + 1
        search := sweepFrom (lowestEnabled s.settings.profiles)
        frame := { s.frame with
          noiseAxis := if x = s.settings.xCount ∧ y = s.settings.yCount then s.frame.noiseAxis else .x
          noiseBand := if x = s.settings.xCount ∧ y = s.settings.yCount then s.frame.noiseBand else 0 } }
      p.other { s.port p.other with
        view := (s.port p.other).view.within (span x) (span y)
        events := Event.addTo .settingsChanged (s.port p.other).events }).setPort
      p { s.port p with view := (s.port p).view.within (span x) (span y) } := by
  have hframe : (if x = s.settings.xCount ∧ y = s.settings.yCount then s.frame
      else { s.frame with noiseAxis := .x, noiseBand := 0 }) = { s.frame with
        noiseAxis := if x = s.settings.xCount ∧ y = s.settings.yCount then s.frame.noiseAxis else .x
        noiseBand := if x = s.settings.xCount ∧ y = s.settings.yCount then s.frame.noiseBand else 0 } := by
    split <;> rfl
  unfold State.applyGrid
  simp only [hframe, State.raise, resetSearch_control, if_neg h]
  cases p <;> rfl

theorem gridOf_eq {x y : Byte} (hx : 16 ≤ x.toNat ∧ x.toNat ≤ 96) (hy : 16 ≤ y.toNat ∧ y.toNat ≤ 60) :
    gridOf x y = some (x.toNat, y.toNat) := by
  rw [gridOf, (within_iff ..).2 hx, (within_iff ..).2 hy]
  rfl

/-- Settles O32: the counts are taken, `applyGrid_eq` says what they leave, and the answer reports them. -/
theorem setGridInHeld : Obligations.SetGridInHeld := by
  intro p x y s hheld hx hx' hy hy' c enabled clamped brought
  refine ⟨lowestEnabled s.settings.profiles, rfl, lowestEnabled_spec _, ?_⟩
  have hstarting : s.control.mode ≠ .starting := by simp [hheld]
  have hbytes : gridBytes { s.settings with xCount := x.toNat, yCount := y.toNat } ++ appliedByte true = [x, y] ++ [0] := by
    simp [gridBytes, u8, appliedByte]
  simp only [exec, execSetGrid, request_eq hstarting, gridOf_eq ⟨hx, hx'⟩ ⟨hy, hy'⟩, hheld, if_true,
    applyGrid_eq _ _ hstarting, setPort_settings, setPort_epoch, hbytes]
  cases p <;> rfl

end Sys2Proof.Machine
end

section
/-! SUPPORT. The tool records' invariant through every command. -/

namespace Sys2Proof.Machine

theorem ToolsOk.answer {s : State} (hs : ToolsOk s) (p : Port) (code : Byte) (r : ResultCode) (pl : List Byte) :
    ToolsOk (s.answer p code r pl) := hs.eq (by simp) (by simp)

theorem ToolsOk.drivesZero {s : State} (hs : ToolsOk s) (p : Port) : ToolsOk (s.drivesZero p) :=
  hs.eq (by simp) (by simp)

theorem ToolsOk.onlyPort {s t : State} {p : Port} (hs : ToolsOk s) (h : OnlyPort p s t) : ToolsOk t := by
  rw [h]
  exact hs.eq (by simp) (by simp)

theorem ToolsOk.elapse {s : State} (hs : ToolsOk s) (d : Nat) : ToolsOk (s.elapse d) := hs.eq rfl rfl

/-- A restart leaves both tool records VACANT (R46, R170). -/
theorem ToolsOk.vacant {s : State} (h0 : s.tool0 = vacantTool) (h1 : s.tool1 = vacantTool) : ToolsOk s :=
  ToolsOk.both (h0 ▸ vacantTool_ok) (h1 ▸ vacantTool_ok)

theorem ToolsOk.resetMode {s : State} (hs : ToolsOk s) (p : Port) : ToolsOk (s.resetMode p) := by
  have hleft : ToolsOk (s.backToScanning.raise .modeChanged p.other) := hs.eq (by simp) (by simp)
  unfold State.resetMode
  split
  · dsimp only
    split
    · exact hleft.resume
    · exact hleft
    · exact hleft
    · exact hs
    · exact hs
  · exact hs

/-! ## The requests that reach more than their port -/

theorem ToolsOk.execAbortTask {p : Port} {s t : State} (hs : ToolsOk s) (h : execAbortTask p s = .next t) : ToolsOk t := by
  refine request_keeps h (hs.drivesZero p) ?_
  split
  · exact hs.eq (by simp) (by simp)
  all_goals exact hs.answer _ _ _ _

theorem ToolsOk.execSetPlan {p : Port} {plan : Plan} {s t : State} (hs : ToolsOk s)
    (h : execSetPlan p plan s = .next t) : ToolsOk t := by
  refine request_keeps h (hs.drivesZero p) ?_
  split
  · exact hs.answer _ _ _ _
  · split
    · exact hs.eq (by simp) (by simp)
    · exact hs.answer _ _ _ _

theorem ToolsOk.execSetGrid {p : Port} {x y : Byte} {s t : State} (hs : ToolsOk s) (h : execSetGrid p x y s = .next t) :
    ToolsOk t := by
  refine request_keeps h (hs.drivesZero p) ?_
  split
  · exact hs.answer _ _ _ _
  · split
    · exact hs.eq (by simp) (by simp)
    · exact hs.answer _ _ _ _

theorem ToolsOk.execHoldScan {p : Port} {delay : Byte} {s t : State} (hs : ToolsOk s)
    (h : execHoldScan p delay s = .next t) : ToolsOk t := by
  refine request_keeps h (hs.drivesZero p) ?_
  split
  · exact hs.answer _ _ _ _
  · split <;> exact hs.eq (by simp) (by simp)

theorem ToolsOk.execResumeScan {p : Port} {s t : State} (hs : ToolsOk s) (h : execResumeScan p s = .next t) :
    ToolsOk t := by
  refine request_keeps h (hs.drivesZero p) ?_
  split
  · split
    · exact hs.endHeld.answer _ _ _ _
    · exact hs.answer _ _ _ _
  · exact hs.answer _ _ _ _

theorem ToolsOk.execCoilSurvey {p : Port} {kind profile : Byte} {s t : State} (hs : ToolsOk s)
    (h : execCoilSurvey p kind profile s = .next t) : ToolsOk t := by
  refine request_keeps h (hs.drivesZero p) ?_
  repeat' split
  all_goals exact hs.eq (by simp) (by simp)

theorem ToolsOk.execReadCapture {p : Port} {offset count unlock : Byte} {s t : State} (hs : ToolsOk s)
    (h : execReadCapture p offset count unlock s = .next t) : ToolsOk t := by
  refine request_keeps h (hs.drivesZero p) ?_
  repeat' split
  all_goals exact hs.eq (by simp) (by simp)

theorem ToolsOk.execPortReset {p : Port} {s t : State} (hs : ToolsOk s) (h : execPortReset p s = .next t) : ToolsOk t := by
  refine request_keeps h (hs.drivesZero p) ?_
  exact (ToolsOk.resetMode (hs.eq (by simp) (by simp)) p).answer _ _ _ _

/-! ## Every command -/

/-- Every command keeps the fields of each tool record in agreement with its State. -/
theorem ToolsOk.exec {c : Instr} {s t : State} (hs : ToolsOk s) (h : exec c s = .next t) : ToolsOk t := by
  cases hp : ownPort c with
  | some p => exact hs.onlyPort (exec_ownPort hp h).1
  | none =>
    cases hq : settingsPort c with
    | some p =>
      exact exec_settingsPort_keeps hq h (hs.drivesZero p) (fun _ _ => hs.answer _ _ _ _) (fun _ _ _ => hs.changeSetting _ _ _ _)
    | none =>
    cases c <;> simp only [ownPort, settingsPort, reduceCtorEq] at hp hq
    case setView =>
      refine request_keeps (show execSetView _ _ s = .next t from h) (hs.drivesZero _) ?_
      split <;> exact hs.eq (by simp) (by simp)
    case abortTask => exact hs.execAbortTask h
    case setPlan => exact hs.execSetPlan h
    case setGrid => exact hs.execSetGrid h
    case holdScan => exact hs.execHoldScan h
    case resumeScan => exact hs.execResumeScan h
    case coilSurvey => exact hs.execCoilSurvey h
    case readCapture => exact hs.execReadCapture h
    case portReset => exact hs.execPortReset h
    case coldRestart p =>
      have hcold : ToolsOk s.restartCold := ToolsOk.vacant rfl rfl
      exact request_keeps (show execColdRestart p s = .next t from h) (hs.drivesZero p) (hcold.drivesZero p)
    case warmRestart p =>
      have hwarm : ToolsOk s.restartWarm := ToolsOk.vacant rfl rfl
      exact request_keeps (show execWarmRestart p s = .next t from h) (hs.drivesZero p) (hwarm.drivesZero p)
    case scheduledFrameStart =>
      rcases execScheduledFrameStart_next h with rfl | ⟨-, rfl⟩
      · exact hs
      · exact (hs.elapse _).frameStart
    case midPoint =>
      rcases execMidPoint_next h with rfl | ⟨u, rfl, rfl⟩
      · exact hs
      · exact hs.eq (by simp) (by simp)
    case dsync =>
      rcases execDsync_next h with rfl | ⟨-, -, rfl⟩
      · exact hs
      · exact hs.dsyncPulse
    case syncTimerExpiry =>
      rcases execSyncTimerExpiry_next h with rfl | ⟨d, -, rfl⟩
      · exact hs
      · exact hs.eq (by simp) (by simp)
    case slotBegin =>
      rcases execSlotBegin_next h with rfl | ⟨k, -, rfl⟩
      · exact hs
      · exact hs.beginSlot k
    case driveBusyFall =>
      rcases execDriveBusyFall_next h with rfl | ⟨k, j, -, rfl⟩
      all_goals exact hs.eq rfl rfl
    case driveBusyRise =>
      have hhigh : ToolsOk (s.withBusy true) := hs.eq rfl rfl
      rcases execDriveBusyRise_next h with rfl | ⟨k, -, rfl⟩
      · exact hhigh
      · exact hhigh.endSlot k .cut
    case slipExpiry =>
      rcases execSlipExpiry_next h with rfl | ⟨k, d, -, rfl⟩
      · exact hs
      · exact (hs.elapse _).endSlot k .skipped
    case excitationEnd =>
      rcases execExcitationEnd_next h with rfl | ⟨u, run, d, -, rfl, rfl⟩
      · exact hs
      · exact hs.eq rfl rfl
    case listenEnd r =>
      rcases execListenEnd_next h with rfl | ⟨k, j, d, -, rfl⟩
      · exact hs
      · exact ((hs.elapse _).handOn j r).endSlot k .done
    case autoResumeExpiry =>
      rcases execAutoResumeExpiry_next h with rfl | ⟨d, n, -, rfl⟩
      · exact hs
      · exact (hs.elapse _).endHeld
    case startingEnd =>
      rcases execStartingEnd_next h with rfl | ⟨d, -, rfl⟩
      · exact hs
      · exact ToolsOk.frameStart (hs.eq (by simp [State.scanBegun]) (by simp [State.scanBegun]))
    case keySample =>
      rcases execKeySample_next h with rfl | ⟨u, keys, changed, rfl, rfl⟩
      · exact hs
      · exact hs.eq (by simp) (by simp)
    case keyRestartHoldExpiry =>
      rcases execKeyRestartHoldExpiry_next h with rfl | ⟨u, d, rfl, rfl⟩
      · exact hs
      · exact ToolsOk.vacant rfl rfl
    case powerOn | resetNLow | resetNRise | powerFail =>
      rcases exec_power_next (by simp) h with rfl | ⟨u, rfl | rfl⟩
      · exact hs.eq rfl rfl
      all_goals exact ToolsOk.vacant rfl rfl

/-- Settles O16: each command keeps `ToolsOk`, case by case, and so does the passing of time. -/
theorem stepKeepsTools : Obligations.StepKeepsTools := fun _ _ =>
  step_keeps (fun _ hs => hs.elapse 1) (fun _ _ hs => hs.eq rfl rfl) (fun _ _ _ => ToolsOk.exec)

end Sys2Proof.Machine
end

section
/-! SUPPORT. The arguments of the settings requests, and their refusals (R36, R78, R80, R139, R144, R145, R146, R177). -/

namespace Sys2Proof.Machine

/-! ## Bytes that name a value (R177) -/

theorem byte_le_one_iff (b : Byte) : b.toNat ≤ 1 ↔ b = 0 ∨ b = 1 := by bv_omega

theorem flagOf_eq_some_iff {b : Byte} {f : Bool} : flagOf b = some f ↔ b.toNat ≤ 1 ∧ f = (b == 1) := by
  rw [byte_le_one_iff, flagOf]
  split
  · next h => subst h; cases f <;> simp
  · next h0 =>
    split
    · next h1 => subst h1; cases f <;> simp
    · next h1 => simp only [h0, h1, or_self, false_and, reduceCtorEq]

theorem syncModeOf_eq_some_iff {b : Byte} {m : SyncMode} :
    syncModeOf b = some m ↔ b.toNat ≤ 1 ∧ m = if b = 0 then .free else .locked := by
  rw [byte_le_one_iff, syncModeOf]
  split
  · next h => simp [h, eq_comm]
  · next h0 =>
    split
    · next h1 => simp [h1, eq_comm]
    · next h1 => simp only [h0, h1, or_self, false_and, reduceCtorEq]

theorem keyComboOf_eq_some_iff {b : Byte} {k : KeyCombo} : keyComboOf b = some k ↔ b.toNat = k.num := by
  unfold keyComboOf
  split
  · next h => subst h; cases k <;> simp [KeyCombo.num]
  · split
    · next h => subst h; cases k <;> simp [KeyCombo.num]
    · split
      · next h => subst h; cases k <;> simp [KeyCombo.num]
      · split
        · next h => subst h; cases k <;> simp [KeyCombo.num]
        · cases k <;> simp only [KeyCombo.num, reduceCtorEq, false_iff] <;> bv_omega

theorem keyComboOf_eq_none {b : Byte} (h : 4 ≤ b.toNat) : keyComboOf b = none := by
  rw [Option.eq_none_iff_forall_ne_some]
  intro k hk
  rw [keyComboOf_eq_some_iff] at hk
  cases k <;> simp only [KeyCombo.num] at hk <;> omega

theorem indexOf_eq_some {n : Nat} {b : Byte} {i : Fin n} (h : b.toNat = i.val) : indexOf n b = some i := by
  rw [indexOf, dif_pos (h ▸ i.isLt)]
  exact congrArg some (Fin.ext h)

theorem indexOf_eq_none {n : Nat} {b : Byte} (h : n ≤ b.toNat) : indexOf n b = none := dif_neg (not_lt.2 h)

/-! ## The items (R139) -/

theorem gridOf_eq_some_iff {x y : Byte} {g : Nat × Nat} : gridOf x y = some g ↔
    16 ≤ x.toNat ∧ x.toNat ≤ 96 ∧ 16 ≤ y.toNat ∧ y.toNat ≤ 60 ∧ g = (x.toNat, y.toNat) := by
  simp only [gridOf, Option.ite_none_right_eq_some, Bool.and_eq_true, within_iff, Option.some.injEq, and_assoc,
    eq_comm (b := g)]

theorem timingOf_eq_some_iff {fp : Half} {mode ratio : Byte} {t : Timing} : timingOf fp mode ratio = some t ↔
    1500 ≤ fp.toNat ∧ fp.toNat ≤ 10000 ∧ mode.toNat ≤ 1 ∧ 1 ≤ ratio.toNat ∧ ratio.toNat ≤ 4
      ∧ t = { framePeriod := fp.toNat, syncMode := if mode = 0 then .free else .locked, syncRatio := ratio.toNat } := by
  unfold timingOf
  split
  · next m hm =>
    obtain ⟨hle, rfl⟩ := syncModeOf_eq_some_iff.1 hm
    simp only [Option.ite_none_right_eq_some, Bool.and_eq_true, within_iff, Option.some.injEq, and_assoc, hle, true_and,
      eq_comm (b := t)]
  · next hm =>
    have hlarge : ¬ mode.toNat ≤ 1 := fun hle => by simp [syncModeOf_eq_some_iff.2 ⟨hle, rfl⟩] at hm
    simp [hlarge]

theorem profileOf_eq_some_iff {a : ProfileArgs} {f : Profile} : profileOf a = some f ↔
    a.enabled.toNat ≤ 1 ∧ 300 ≤ a.tipFreq.toNat ∧ a.tipFreq.toNat ≤ 900 ∧ 300 ≤ a.ringFreq.toNat
      ∧ a.ringFreq.toNat ≤ 900 ∧ a.ringFreq ≠ a.tipFreq ∧ a.nominalZero.toNat ≤ 1023 ∧ 64 ≤ a.phaseSpan.toNat
      ∧ a.phaseSpan.toNat ≤ 1023 ∧ 256 ≤ a.ringHeight.toNat ∧ a.ringHeight.toNat ≤ 4096
      ∧ f = { enabled := a.enabled == 1, tipFreq := a.tipFreq.toNat, ringFreq := a.ringFreq.toNat,
              nominalZero := a.nominalZero.toNat, phaseSpan := a.phaseSpan.toNat, ringHeight := a.ringHeight.toNat } := by
  unfold profileOf
  split
  · next en hen =>
    obtain ⟨hle, rfl⟩ := flagOf_eq_some_iff.1 hen
    simp only [Option.ite_none_right_eq_some, Bool.and_eq_true, within_iff, bne_iff_ne, Nat.zero_le, Option.some.injEq,
      and_assoc, hle, true_and, eq_comm (b := f)]
  · next hen =>
    have hlarge : ¬ a.enabled.toNat ≤ 1 := fun hle => by simp [flagOf_eq_some_iff.2 ⟨hle, rfl⟩] at hen
    simp [hlarge]

theorem pressureOf_eq_some_iff {a : PressureArgs} {k : Pressure} : pressureOf a = some k ↔
    a.up.toNat < a.down.toNat ∧ a.down.toNat ≤ 8191 ∧ 0 < a.x1.toNat ∧ a.x1.toNat < a.x2.toNat
      ∧ a.x2.toNat < a.x3.toNat ∧ a.x3.toNat < 8191 ∧ a.y1.toNat ≤ a.y2.toNat ∧ a.y2.toNat ≤ a.y3.toNat
      ∧ a.y3.toNat ≤ 8191
      ∧ k = { down := a.down.toNat, up := a.up.toNat, x1 := a.x1.toNat, y1 := a.y1.toNat, x2 := a.x2.toNat,
              y2 := a.y2.toNat, x3 := a.x3.toNat, y3 := a.y3.toNat } := by
  simp only [pressureOf, pressureValid, Option.ite_none_right_eq_some, Bool.and_eq_true, decide_eq_true_eq,
    Option.some.injEq, and_assoc, eq_comm (b := k)]

theorem clampNat_eq_max_min {lo hi : Nat} (h : lo ≤ hi) (v : Nat) : clampNat lo hi v = max lo (min v hi) := by
  unfold clampNat
  split
  · omega
  · split <;> omega

theorem trackingOf_eq_some_iff {a : TrackingArgs} {k : Tracking} : trackingOf a = some k ↔
    min a.hold.toNat 4095 ≤ min a.acquire.toNat 4095
      ∧ k = { acquire := min a.acquire.toNat 4095, hold := min a.hold.toNat 4095,
              fadeFrames := max 1 (min a.fadeFrames.toNat 16), missLimit := max 2 (min a.missLimit.toNat 32),
              deadband := min a.deadband.toNat 64, tiltLimit := min a.tiltLimit.toNat 900 } := by
  simp only [trackingOf, clampNat_eq_max_min, Nat.zero_le, Nat.reduceLeDiff, Nat.zero_max, Option.ite_none_right_eq_some,
    Option.some.injEq, eq_comm (b := k)]

theorem nodeOf_eq (a : NodeArgs) :
    nodeOf a = { x := max (-512) (min a.dx.toInt 511), y := max (-512) (min a.dy.toInt 511) } := by
  rw [nodeOf, clamp_eq_max_min (by decide), clamp_eq_max_min (by decide)]

theorem mapRowOf_getElem (v : Vector NodeArgs 9) (i : Fin 9) : (mapRowOf v)[i] = nodeOf v[i] := by
  fin_cases i <;> rfl

/-- Settles O28: one equivalence per item of the Settings Store. -/
theorem settingsArguments : Obligations.SettingsArguments :=
  ⟨fun _ _ _ => gridOf_eq_some_iff, fun _ _ _ _ => timingOf_eq_some_iff, fun _ _ => profileOf_eq_some_iff,
    fun _ _ => pressureOf_eq_some_iff, fun _ _ => trackingOf_eq_some_iff,
    fun v i => (mapRowOf_getElem v i).trans (nodeOf_eq v[i]), fun _ _ => keyComboOf_eq_some_iff⟩

/-! ## What a request checks against the state -/

/-- A FramePeriod fits when it fits the Active Plan and the Pending Plan (R144). -/
theorem periodFits_iff {s : State} {fp : Nat} : s.periodFits fp = true ↔
    planFits fp s.frame.activePlan = true ∧ ∀ q, s.frame.pendingPlan = some q → planFits fp q.plan = true := by
  rw [State.periodFits, Bool.and_eq_true]
  cases s.frame.pendingPlan <;> simp

/-- A profile clashes when it is enabled and another that will stand enabled has its TipFreq (R36). -/
theorem tipFreqClash_iff {s : State} {i : Fin 4} {f : Profile} : s.tipFreqClash i f = true ↔
    f.enabled = true ∧ ∃ j, j ≠ i ∧ (s.nextProfile j).enabled = true ∧ (s.nextProfile j).tipFreq = f.tipFreq := by
  have hall : ∀ j : Fin 4, j ∈ ([0, 1, 2, 3] : List (Fin 4)) := by decide
  simp only [State.tipFreqClash, Bool.and_eq_true, List.any_eq_true, hall, true_and, bne_iff_ne, beq_iff_eq, and_assoc]

/-! ## Refusals (R125) -/

/-- Settles O29: each request's arm, at the branch that its refusal takes. -/
theorem settingsRefused : Obligations.SettingsRefused := by
  intro p s hstarting refused
  have answered : ∀ {c : Instr} {code : Byte} {r : ResultCode}, exec c s = .next (s.answer p code r []) →
    refused c code r := id
  refine ⟨fun x y hg => answered ?_, fun x y g hg hheld => answered ?_, fun fp m r ht => answered ?_,
    fun fp m r t ht hfit => answered ?_, fun i a hbad => answered ?_,
    fun i a f j hi hf hj hen hnext htip => answered ?_, fun a ha => answered ?_, fun a ha => answered ?_,
    fun row v hrow => answered ?_, fun combo hc => answered ?_⟩
  · simp only [exec, execSetGrid, request_eq hstarting, hg]
  · simp only [exec, execSetGrid, request_eq hstarting, hg, if_neg hheld]
  · simp only [exec, execSetTiming, request_eq hstarting, ht]
  · have hnofit : ¬ s.periodFits t.framePeriod = true := by
      rw [periodFits_iff]
      rintro ⟨hactive, hpending⟩
      rcases hfit with hfit | ⟨q, hq, hfit⟩
      · simp [hactive] at hfit
      · simp [hpending q hq] at hfit
    simp only [exec, execSetTiming, request_eq hstarting, ht, if_neg hnofit]
  · simp only [exec, execSetProfile, request_eq hstarting]
    rcases hbad with hlarge | ha
    · rw [indexOf_eq_none hlarge]
    · rw [ha]
      cases indexOf 4 i <;> rfl
  · have hclash : s.tipFreqClash ⟨i.toNat, hi⟩ f = true :=
      tipFreqClash_iff.2 ⟨hen, j, fun he => hj (congrArg Fin.val he), hnext, htip⟩
    have hindex : indexOf 4 i = some ⟨i.toNat, hi⟩ := indexOf_eq_some rfl
    simp only [exec, execSetProfile, request_eq hstarting, hindex, hf, hclash, if_true]
  · simp only [exec, execSetPressure, request_eq hstarting, ha]
  · simp only [exec, execSetTracking, request_eq hstarting, ha]
  · simp only [exec, execSetMapRow, request_eq hstarting, indexOf_eq_none hrow]
  · simp only [exec, execSetKeyCombo, request_eq hstarting, keyComboOf_eq_none hc]

end Sys2Proof.Machine
end

section
/-! SUPPORT. A taken settings request in HELD, applied at once (R13, R37, R142, R143, R173). -/

namespace Sys2Proof.Machine

/-! ## The effects of an application, whole -/

theorem markRelease_eq (old new : Vector Profile 4) (t : Tool) : markRelease old new t =
    { t with releaseMark := t.releaseMark || (t.state != .vacant && new[t.profile] != old[t.profile]) } :=
  markRelease_marked old new t

theorem markRelease_self (ps : Vector Profile 4) (t : Tool) : markRelease ps ps t = t := by simp [markRelease]

theorem profileEffects_of_eq {s : State} {old : Vector Profile 4} (h : s.settings.profiles = old) :
    s.profileEffects old = s := by
  subst h
  simp [State.profileEffects, markRelease_self, cursorAfterProfiles]

/-- The cursor after a change of profile `k` alone (R37). -/
theorem cursorAfterProfiles_set (ps : Vector Profile 4) (k : Fin 4) (f : Profile) (c : SearchCursor) :
    cursorAfterProfiles ps (ps.set k f) c =
      if c.profile = k ∧ f ≠ ps[k] then sweepFrom (if f.enabled then k else nextEnabled (ps.set k f) k) else c := by
  unfold cursorAfterProfiles
  by_cases hk : c.profile = k
  · subst hk
    by_cases hf : f = ps[c.profile]
    · simp [hf]
    · simp only [Fin.getElem_fin, Vector.getElem_set_self] at hf ⊢
      simp only [hf, ne_eq, not_false_iff, and_self, if_true, if_false]
      split <;> rfl
  · have hne : k.val ≠ c.profile.val := fun h => hk (Fin.ext h.symm)
    simp [hk, hne]

theorem syncEffects_of_eq {s : State} {old : SyncMode} (h : s.settings.timing.syncMode = old) : s.syncEffects old = s :=
  if_pos h

theorem syncEffects_eq (s : State) (old : SyncMode) : s.syncEffects old =
    { s with
      frame :=
        if s.settings.timing.syncMode = old then s.frame
        else { s.frame with
          sync := if s.settings.timing.syncMode = .locked then .seeking else .free
          syncTimer := none } } := by
  unfold State.syncEffects
  split
  · rfl
  · cases s.settings.timing.syncMode <;> rfl

theorem comboEffects_of_eq {s : State} {old : KeyCombo} (h : s.settings.combo = old) : s.comboEffects old = s :=
  if_pos h

theorem comboEffects_eq (s : State) (old : KeyCombo) : s.comboEffects old =
    { s with
      keys := { s.keys with
        hold :=
          if s.settings.combo = old then s.keys.hold
          else if s.settings.combo = .none then .stopped
          else if s.keys.hold = .spent then .spent
          else if s.keys.allPressed s.settings.combo then .running 0 else .stopped } } := by
  unfold State.comboEffects judgedHold
  split
  · rfl
  · split
    · rfl
    · cases s.keys.hold <;> rfl

/-! ## One change applied -/

/-- The settings become `c` in one application, told at the port other than `p` (R142, R143). -/
def State.changedBy (s : State) (p : Port) (c : Settings) : State :=
  State.setPort { s with settings := c, epoch := s.epoch + 1 } p.other
    { s.port p.other with events := Event.addTo .settingsChanged (s.port p.other).events }

@[simp] theorem changedBy_settings (s : State) (p : Port) (c : Settings) : (s.changedBy p c).settings = c := by
  simp [State.changedBy]

/-- Port `p` took every change of `w`, and there is one; applied to the settings `c` they give `c'`. -/
structure Waiting.Brings (w : Waiting) (p : Port) (c c' : Settings) : Prop where
  taken : w.anyBy p = true
  alone : w.anyBy p.other = false
  applied : c.applied w = c'

theorem Waiting.Brings.any {w : Waiting} {p : Port} {c c' : Settings} (h : w.Brings p c c') : w.any = true := by
  have hmem : some p ∈ w.takers := by simpa [Waiting.anyBy] using h.taken
  exact List.any_eq_true.2 ⟨_, hmem, rfl⟩

/-- SettingsChanged is raised at the port other than the one that took the changes, and nowhere else (R143). -/
theorem raiseSettingsChanged_of_brings {s : State} {p : Port} {w : Waiting} {c c' : Settings} (h : w.Brings p c c') :
    s.raiseSettingsChanged w = s.raise .settingsChanged p.other := by
  obtain ⟨htaken, halone, -⟩ := h
  cases p with
  | s => simp [State.raiseSettingsChanged, State.raiseIf, htaken, show w.anyBy .d = false from halone, Port.other]
  | d => simp [State.raiseSettingsChanged, State.raiseIf, htaken, show w.anyBy .s = false from halone, Port.other]

section
variable {s : State} {p : Port} {w : Waiting} {c : Settings} {code : Byte} {fields : List Byte}
  (hheld : s.control.mode = .held) (hnone : s.waiting = noWaiting) (hw : w.Brings p s.settings c)
include hheld hnone hw

/-- A taken settings request in HELD, nothing pending before it, is one application (R142). -/
theorem takeSetting_held : s.takeSetting w =
    (((s.changedBy p c).profileEffects s.settings.profiles).syncEffects s.settings.timing.syncMode).comboEffects
      s.settings.combo := by
  have htold : State.raiseSettingsChanged { s with settings := c, waiting := noWaiting, epoch := s.epoch + 1 } w
      = s.changedBy p c := by
    rw [raiseSettingsChanged_of_brings hw, ← hnone]
    simp [State.raise, State.changedBy, hheld]
  simp only [State.takeSetting, hheld, if_true, State.applyWaiting, hw.any, hw.applied, htold]

/-- What a taken settings request answers in HELD (R139, R142). -/
theorem changeSetting_held : s.changeSetting p code w fields =
    ((((s.changedBy p c).profileEffects s.settings.profiles).syncEffects s.settings.timing.syncMode).comboEffects
      s.settings.combo).answer p code .ok (fields ++ [0] ++ u16 (s.epoch + 1).toNat) := by
  simp only [State.changeSetting, takeSetting_held hheld hnone hw, hheld]
  simp [State.changedBy, appliedByte, u8]

/-- A change that touches neither profiles, SyncMode nor combination has no further effect (R13, R37, R173). -/
theorem changeSetting_held_plain (hprofiles : c.profiles = s.settings.profiles)
    (hsync : c.timing.syncMode = s.settings.timing.syncMode) (hcombo : c.combo = s.settings.combo) :
    s.changeSetting p code w fields =
      (s.changedBy p c).answer p code .ok (fields ++ [0] ++ u16 (s.epoch + 1).toNat) := by
  rw [changeSetting_held hheld hnone hw, profileEffects_of_eq (by simpa using hprofiles),
    syncEffects_of_eq (by simpa using hsync), comboEffects_of_eq (by simpa using hcombo)]

end

/-! ## The one change of each item -/

section
variable {w : Waiting} (hw : w = noWaiting) (c : Settings) (p : Port)
include hw

theorem timing_brings (t : Timing) :
    Waiting.Brings { w with timing := some { value := t, port := p } } p c { c with timing := t } := by
  subst hw
  refine ⟨?_, ?_, congrArg (fun c' : Settings => { c' with timing := t }) (applied_noWaiting c)⟩ <;> cases p <;> rfl

theorem pressure_brings (k : Pressure) :
    Waiting.Brings { w with pressure := some { value := k, port := p } } p c { c with pressure := k } := by
  subst hw
  refine ⟨?_, ?_, congrArg (fun c' : Settings => { c' with pressure := k }) (applied_noWaiting c)⟩ <;> cases p <;> rfl

theorem tracking_brings (k : Tracking) :
    Waiting.Brings { w with tracking := some { value := k, port := p } } p c { c with tracking := k } := by
  subst hw
  refine ⟨?_, ?_, congrArg (fun c' : Settings => { c' with tracking := k }) (applied_noWaiting c)⟩ <;> cases p <;> rfl

theorem combo_brings (k : KeyCombo) :
    Waiting.Brings { w with combo := some { value := k, port := p } } p c { c with combo := k } := by
  subst hw
  refine ⟨?_, ?_, congrArg (fun c' : Settings => { c' with combo := k }) (applied_noWaiting c)⟩ <;> cases p <;> rfl

theorem profile_brings (k : Fin 4) (f : Profile) :
    Waiting.Brings { w with profiles := w.profiles.set k (some { value := f, port := p }) } p c
      { c with profiles := c.profiles.set k f } := by
  subst hw
  have hset : (c.applied { noWaiting with
      profiles := noWaiting.profiles.set k (some { value := f, port := p }) }).profiles = c.profiles.set k f := by
    refine Vector.ext fun i hi => (applied_profiles c _ ⟨i, hi⟩).trans ?_
    by_cases hk : k.val = i
    · subst hk; simp [takeChange]
    · simp [hk, noWaiting, takeChange]
  refine ⟨?_, ?_, ?_⟩
  · cases p <;> fin_cases k <;> rfl
  · cases p <;> fin_cases k <;> rfl
  · rw [← hset]
    exact congrArg (fun c' : Settings => { c' with profiles := (c.applied { noWaiting with
      profiles := noWaiting.profiles.set k (some { value := f, port := p }) }).profiles }) (applied_noWaiting c)

theorem row_brings (j : Fin 7) (r : MapRow) :
    Waiting.Brings { w with map := w.map.set j (some { value := r, port := p }) } p c
      { c with map := c.map.set j r } := by
  subst hw
  have hset : (c.applied { noWaiting with
      map := noWaiting.map.set j (some { value := r, port := p }) }).map = c.map.set j r := by
    refine Vector.ext fun i hi => (applied_map c _ ⟨i, hi⟩).trans ?_
    by_cases hj : j.val = i
    · subst hj; simp [takeChange]
    · simp [hj, noWaiting, takeChange]
  refine ⟨?_, ?_, ?_⟩
  · cases p <;> fin_cases j <;> rfl
  · cases p <;> fin_cases j <;> rfl
  · rw [← hset]
    exact congrArg (fun c' : Settings => { c' with map := (c.applied { noWaiting with
      map := noWaiting.map.set j (some { value := r, port := p }) }).map }) (applied_noWaiting c)

end

/-- The profile `f` may take the place of profile `k`: no other that will stand enabled has its TipFreq (R36). -/
theorem not_tipFreqClash {s : State} {k : Fin 4} {f : Profile}
    (h : ∀ j, j ≠ k → f.enabled = true → (s.nextProfile j).enabled = true → (s.nextProfile j).tipFreq ≠ f.tipFreq) :
    ¬ s.tipFreqClash k f = true := by
  rw [tipFreqClash_iff]
  rintro ⟨hen, j, hj, hnext, htip⟩
  exact h j hj hen hnext htip

/-- Settles O31: each request brings the one change of its item, and `changeSetting_held` says what that leaves. -/
theorem settingsApplyAtOnceInHeld : Obligations.SettingsApplyAtOnceInHeld := by
  intro p s hheld hnone told applies
  have hstarting : s.control.mode ≠ .starting := by simp [hheld]
  refine ⟨fun a k ha => ?_, fun a k ha => ?_, fun row j v hrow => ?_, fun fp m r t ht hactive hpending => ?_,
    fun i k a f hi hf hdiffer => ?_, fun combo k hk => ?_⟩
  · simp only [applies, exec, execSetPressure, request_eq hstarting, ha]
    rw [changeSetting_held_plain hheld hnone (pressure_brings hnone _ p k) rfl rfl rfl]
    cases p <;> rfl
  · simp only [applies, exec, execSetTracking, request_eq hstarting, ha]
    rw [changeSetting_held_plain hheld hnone (tracking_brings hnone _ p k) rfl rfl rfl]
    cases p <;> rfl
  · simp only [applies, exec, execSetMapRow, request_eq hstarting, indexOf_eq_some hrow]
    rw [changeSetting_held_plain hheld hnone (row_brings hnone _ p j _) rfl rfl rfl]
    cases p <;> rfl
  · simp only [applies, exec, execSetTiming, request_eq hstarting, ht, if_pos (periodFits_iff.2 ⟨hactive, hpending⟩)]
    rw [changeSetting_held hheld hnone (timing_brings hnone _ p t), profileEffects_of_eq (by simp), syncEffects_eq,
      comboEffects_of_eq (by simp)]
    cases p <;> rfl
  · intro profiles marked
    simp only [applies, exec, execSetProfile, request_eq hstarting, indexOf_eq_some hi, hf,
      if_neg (not_tipFreqClash hdiffer)]
    rw [changeSetting_held hheld hnone (profile_brings hnone _ p k f), syncEffects_of_eq (by simp),
      comboEffects_of_eq (by simp)]
    simp only [State.profileEffects, markRelease_eq, changedBy_settings, cursorAfterProfiles_set]
    cases p <;> rfl
  · simp only [applies, exec, execSetKeyCombo, request_eq hstarting, hk]
    rw [changeSetting_held hheld hnone (combo_brings hnone _ p k), profileEffects_of_eq (by simp),
      syncEffects_of_eq (by simp), comboEffects_eq]
    cases p <;> rfl

end Sys2Proof.Machine
end

section
/-! SUPPORT. The Search Walk: the sweep, the locate, the placement, the slot's start (R37 to R43). -/

namespace Sys2Proof.Machine

/-! ## The next enabled profile (R37, R39, R40) -/

/-- The profiles after `i` in cyclic order. -/
theorem profilesAfter_eq (i : Fin 4) :
    [i + 1, i + 2, i + 3] = (List.finRange 3).map fun n => i + 1 + n.castSucc := by fin_cases i <;> rfl

/-- Every profile is `i` or one of the three after it. -/
theorem profile_eq_or_after (i j : Fin 4) : j = i ∨ ∃ m : Fin 3, j = i + 1 + m.castSucc := by
  fin_cases i <;> fin_cases j <;> decide

/-- The next enabled profile is the first enabled one after `i`, or `i` itself where none after it is enabled. -/
theorem nextEnabled_spec (ps : Vector Profile 4) (i : Fin 4) :
    (∃ n : Fin 3, nextEnabled ps i = i + 1 + n.castSucc ∧ ps[i + 1 + n.castSucc].enabled = true
      ∧ ∀ m : Fin 3, m < n → ¬ ps[i + 1 + m.castSucc].enabled = true)
    ∨ (nextEnabled ps i = i ∧ ∀ m : Fin 3, ¬ ps[i + 1 + m.castSucc].enabled = true) := by
  have hdef : nextEnabled ps i = (((List.finRange 3).find? fun n => ps[i + 1 + n.castSucc].enabled).map
      fun n => i + 1 + n.castSucc).getD i := by
    rw [nextEnabled, profilesAfter_eq, List.find?_map]
    rfl
  cases hfind : (List.finRange 3).find? fun n => ps[i + 1 + n.castSucc].enabled with
  | none =>
    rw [hfind] at hdef
    rw [List.find?_eq_none] at hfind
    exact .inr ⟨hdef, fun m => hfind m (List.mem_finRange m)⟩
  | some n =>
    rw [hfind] at hdef
    obtain ⟨henabled, k, hk, hget, hbefore⟩ := List.find?_eq_some_iff_getElem.1 hfind
    have hval : n.val = k := by simp [← hget]
    refine .inl ⟨n, hdef, henabled, fun m hm => ?_⟩
    have hlt : m.val < k := hval ▸ hm
    simpa using hbefore m.val hlt

/-- With a profile enabled but not `i`, the next enabled one is the first after `i`. -/
theorem nextEnabled_of_disabled {ps : Vector Profile 4} {i : Fin 4} (hany : ∃ j : Fin 4, ps[j].enabled = true)
    (hi : ¬ ps[i].enabled = true) : ∃ n : Fin 3, nextEnabled ps i = i + 1 + n.castSucc
      ∧ ps[i + 1 + n.castSucc].enabled = true ∧ ∀ m : Fin 3, m < n → ¬ ps[i + 1 + m.castSucc].enabled = true := by
  rcases nextEnabled_spec ps i with hnext | ⟨-, hnone⟩
  · exact hnext
  · obtain ⟨j, hj⟩ := hany
    rcases profile_eq_or_after i j with rfl | ⟨m, rfl⟩
    · exact absurd hj hi
    · exact absurd hj (hnone m)

/-! ## The exclusion (R41, R43) -/

theorem magnitude_le_iff {v b : Int} : magnitude v ≤ b ↔ -b ≤ v ∧ v ≤ b := by
  unfold magnitude
  split <;> omega

theorem excludesX_iff {k : SearchCursor} {x : Int} {t : Tool} : excludesX k x t = true ↔
    t.state ≠ .vacant ∧ t.profile = k.profile ∧ -512 ≤ t.raw.x - x ∧ t.raw.x - x ≤ 512 := by
  simp only [excludesX, Bool.and_eq_true, bne_iff_ne, beq_iff_eq, decide_eq_true_eq, magnitude_le_iff, Config.exclusion,
    and_assoc]

theorem excludesXY_iff {k : SearchCursor} {x y : Int} {t : Tool} : excludesXY k x y t = true ↔
    t.state ≠ .vacant ∧ t.profile = k.profile ∧ -512 ≤ t.raw.x - x ∧ t.raw.x - x ≤ 512
      ∧ -512 ≤ t.raw.y - y ∧ t.raw.y - y ≤ 512 := by
  simp only [excludesXY, Bool.and_eq_true, excludesX_iff, decide_eq_true_eq, magnitude_le_iff, Config.exclusion, and_assoc]

theorem exists_tool_iff {s : State} {P : Tool → Prop} : (∃ i, P (s.tool i)) ↔ P s.tool0 ∨ P s.tool1 := by
  constructor
  · rintro ⟨i, hi⟩
    cases i
    · exact .inl hi
    · exact .inr hi
  · rintro (h | h)
    · exact ⟨.t0, h⟩
    · exact ⟨.t1, h⟩

/-- A tracked tool excludes a sweep hit at `x` (R41). -/
def State.Excludes (s : State) (k : SearchCursor) (x : Int) : Prop := ∃ i, excludesX k x (s.tool i) = true

/-- A tracked tool excludes a placement at `(x, y)` (R43). -/
def State.ExcludesPlace (s : State) (k : SearchCursor) (x y : Int) : Prop := ∃ i, excludesXY k x y (s.tool i) = true

theorem not_excludes_iff {s : State} {k : SearchCursor} {x : Int} :
    ¬ s.Excludes k x ↔ (!excludesX k x s.tool0) = true ∧ (!excludesX k x s.tool1) = true := by
  rw [State.Excludes, exists_tool_iff (P := fun t => excludesX k x t = true), not_or]
  simp

theorem not_excludesPlace_iff {s : State} {k : SearchCursor} {x y : Int} :
    ¬ s.ExcludesPlace k x y ↔ (!excludesXY k x y s.tool0) = true ∧ (!excludesXY k x y s.tool1) = true := by
  rw [State.ExcludesPlace, exists_tool_iff (P := fun t => excludesXY k x y t = true), not_or]
  simp

/-! ## The sweep (R40, R41) -/

theorem sweepAfter_next {c : Settings} {k : SearchCursor} {b : Nat} (h : b + 1 < bands c.xCount) :
    sweepAfter c k b = { sweepFrom k.profile with band := b + 1 } := if_pos h

theorem sweepAfter_last {c : Settings} {k : SearchCursor} {b : Nat} (h : bands c.xCount ≤ b + 1) :
    sweepAfter c k b = sweepFrom (nextEnabled c.profiles k.profile) := if_neg (not_lt.2 h)

section
variable {s : State} {b : Nat} {bank amps : List Nat} {x : Int} (hamps : amps = bandAmps s.settings.xCount b bank)
  (hx : x = bandPosition b amps s.settings.xSpan)
include hamps hx

theorem sweepResult_hit (hstrong : s.effAcquire ≤ peakAmp amps) (hfree : ¬ s.Excludes s.search x) :
    s.sweepResult b bank = { s with search :=
      { phase := .locate, profile := s.search.profile, band := 0, hitX := some x, bestAmp := some 0, bestY := none } } := by
  subst hx hamps
  exact if_pos ⟨hstrong, not_excludes_iff.1 hfree⟩

theorem sweepResult_miss (hmiss : peakAmp amps < s.effAcquire ∨ s.Excludes s.search x) :
    s.sweepResult b bank = { s with search := sweepAfter s.settings s.search b } := by
  subst hx hamps
  refine if_neg ?_
  rintro ⟨hstrong, hfree⟩
  rcases hmiss with hweak | hexcluded
  · exact not_lt.2 hstrong hweak
  · exact not_excludes_iff.2 hfree hexcluded

end

theorem sweepResult_eq (s : State) (b : Nat) (bank : List Nat) :
    s.sweepResult b bank = { s with search := (s.sweepResult b bank).search } := by
  unfold State.sweepResult
  dsimp only
  split <;> rfl

/-! ## The locate and the placement (R42, R43) -/

/-- A Y band's peak above BestAmp is kept with its position (R42). -/
theorem keepBest_eq {c : Settings} {k : SearchCursor} {best : Nat} (hbest : k.bestAmp = some best) (b : Nat)
    (amps : List Nat) : keepBest c k b amps =
      { k with
        bestAmp := some (if best < peakAmp amps then peakAmp amps else best)
        bestY := if best < peakAmp amps then some (bandPosition b amps c.ySpan) else k.bestY } := by
  rw [keepBest, hbest, Option.getD_some]
  split
  · rfl
  · rw [← hbest]

section
variable {s : State} {k : SearchCursor} {x y : Int} {amp : Nat} (hx : k.hitX = some x) (hamp : k.bestAmp = some amp)
include hx hamp

/-- A candidate without a Y peak, too weak, or near a tracked tool is placed nowhere (R43). -/
theorem place_of_refused (h : k.bestY = none ∨ amp < s.effAcquire ∨ ∃ y, k.bestY = some y ∧ s.ExcludesPlace k x y) :
    s.place k = s := by
  unfold State.place
  rw [hx]
  split
  · next x' y' hx' hy =>
    cases hx'
    refine if_neg ?_
    rw [hamp, Option.getD_some]
    rintro ⟨hstrong, hfree⟩
    rcases h with hnone | hweak | ⟨y, hy', hexcluded⟩
    · simp [hnone] at hy
    · exact not_lt.2 hstrong hweak
    · cases hy.symm.trans hy'
      exact not_excludesPlace_iff.2 hfree hexcluded
  · rfl

/-- Any other takes the lowest VACANT record (R43). -/
theorem place_of_taken (hy : k.bestY = some y) (hstrong : s.effAcquire ≤ amp) (hfree : ¬ s.ExcludesPlace k x y) :
    s.place k =
      if s.tool0.state = .vacant then { s with tool0 := placedTool k.profile x y s.frame.count }
      else if s.tool1.state = .vacant then { s with tool1 := placedTool k.profile x y s.frame.count }
      else s := by
  unfold State.place
  rw [hx, hy, hamp]
  exact if_pos ⟨hstrong, not_excludesPlace_iff.1 hfree⟩

end

theorem place_eq (s : State) (k : SearchCursor) :
    s.place k = { s with tool0 := (s.place k).tool0, tool1 := (s.place k).tool1 } := by
  unfold State.place
  repeat' split
  all_goals rfl

section
variable {s : State} {b : Nat} {bank : List Nat}

theorem locateResult_next (h : b + 1 < bands s.settings.yCount) : s.locateResult b bank = { s with search :=
    { keepBest s.settings s.search b (bandAmps s.settings.yCount b bank) with band := b + 1 } } := if_pos h

theorem locateResult_last {k : SearchCursor} (h : bands s.settings.yCount ≤ b + 1)
    (hk : k = keepBest s.settings s.search b (bandAmps s.settings.yCount b bank)) :
    s.locateResult b bank = { s.place k with search := sweepAfter s.settings k (hitBand k) } := by
  rw [State.locateResult, if_neg (not_lt.2 h), hk]

theorem locateResult_eq : s.locateResult b bank =
    { s with
      search := (s.locateResult b bank).search
      tool0 := (s.locateResult b bank).tool0
      tool1 := (s.locateResult b bank).tool1 } := by
  rcases lt_or_ge (b + 1) (bands s.settings.yCount) with h | h
  · rw [locateResult_next h]
  · rw [locateResult_last h rfl, place_eq]

end

/-! ## The slot's start (R39) -/

theorem functionOf_eq_search {r : SlotRecord} : functionOf r = some .search ↔ r.function = 1 := by
  refine ⟨fun h => ?_, functionOf_search⟩
  unfold functionOf at h
  repeat' split at h
  all_goals simp_all

theorem searchAtStart_eq (s : State) (k : Fin 8) : s.searchAtStart k =
    if s.frame.window = none ∧ s.frame.activePlan[k].function = 1 ∧ s.searchHasWork = true then s.searchFrom
    else s.search := by
  simp only [State.searchAtStart, Bool.and_eq_true, Option.isNone_iff_eq_none, beq_iff_eq, functionOf_eq_search, and_assoc]

/-! ## The statement -/

theorem excludes_iff {s : State} {k : SearchCursor} {x : Int} : s.Excludes k x ↔ ∃ i, (s.tool i).state ≠ .vacant
    ∧ (s.tool i).profile = k.profile ∧ -512 ≤ (s.tool i).raw.x - x ∧ (s.tool i).raw.x - x ≤ 512 :=
  exists_congr fun _ => excludesX_iff

theorem excludesPlace_iff {s : State} {k : SearchCursor} {x y : Int} : s.ExcludesPlace k x y ↔ ∃ i,
    (s.tool i).state ≠ .vacant ∧ (s.tool i).profile = k.profile ∧ -512 ≤ (s.tool i).raw.x - x
      ∧ (s.tool i).raw.x - x ≤ 512 ∧ -512 ≤ (s.tool i).raw.y - y ∧ (s.tool i).raw.y - y ≤ 512 :=
  exists_congr fun _ => excludesXY_iff

/-- Settles O50: the sweep by hit or miss, the locate by its last band and the candidate's fate, the start by its work. -/
theorem searchSweepFindsAHit : Obligations.SearchSweepFindsAHit := by
  refine ⟨fun ps i => ?_, fun s b bank => ?_, fun s b bank x best hx _ hbest => ?_, fun s k => ?_⟩
  · intro enabled j
    refine ⟨(nextEnabled_spec ps i).imp_left ?_, rfl⟩
    rintro ⟨n, hn, henabled, hbefore⟩
    exact ⟨n, hn, by simp only [enabled, j, hn]; exact henabled, hbefore⟩
  · intro amps x excluded t
    have hmiss : peakAmp amps < s.effAcquire ∨ excluded → t.search = sweepAfter s.settings s.search b := fun h =>
      congrArg State.search (sweepResult_miss rfl rfl (h.imp_right excludes_iff.2))
    refine ⟨sweepResult_eq s b bank, fun hstrong hfree => ?_, fun h hnext => ?_, fun h hlast => ?_⟩
    · exact congrArg State.search (sweepResult_hit rfl rfl hstrong (mt excludes_iff.1 hfree))
    · rw [hmiss h, sweepAfter_next hnext]; rfl
    · rw [hmiss h, sweepAfter_last hlast]
  · intro amps better amp y profile hit near placed t
    obtain ⟨kept, hkept⟩ : ∃ kept : SearchCursor, kept = { s.search with bestAmp := some amp, bestY := y } := ⟨_, rfl⟩
    have hbestKept : kept = keepBest s.settings s.search b amps := by rw [hkept, keepBest_eq hbest]
    have hprofile : kept.profile = profile := by rw [hkept]
    have hhit : kept.hitX = some x := by rw [hkept]; exact hx
    have hamp : kept.bestAmp = some amp := by rw [hkept]
    have hy : kept.bestY = y := by rw [hkept]
    have hnear : ∀ v, s.ExcludesPlace kept x v ↔ near v := fun v => excludesPlace_iff.trans (by rw [hprofile])
    refine ⟨locateResult_eq, fun hnext => ?_, fun hlast => ?_⟩
    · rw [show t = _ from locateResult_next hnext, ← hbestKept, hkept]
    · have ht : t = { s.place kept with search := sweepAfter s.settings kept (hitBand kept) } :=
        locateResult_last hlast hbestKept
      have hband : hitBand kept = hit := by rw [hitBand, hhit]; rfl
      rw [ht, hband]
      refine ⟨fun hnext => ?_, fun hend => ?_, fun hrefused => ?_, fun v hv hstrong hfree => ?_⟩
      · rw [sweepAfter_next hnext, hprofile]; rfl
      · rw [sweepAfter_last hend, hprofile]
      · rw [place_of_refused hhit hamp]
        · exact ⟨rfl, rfl⟩
        · rw [hy]
          exact hrefused.imp_right (Or.imp_right fun ⟨v, hv, h⟩ => ⟨v, hv, (hnear v).2 h⟩)
      · rw [place_of_taken hhit hamp (hy.trans hv) hstrong (mt (hnear v).1 hfree), hprofile]
        refine ⟨fun h0 => ?_, fun h0 h1 => ?_⟩
        · rw [if_pos h0]
          exact ⟨rfl, rfl⟩
        · rw [if_neg h0, if_pos h1]
          exact ⟨rfl, rfl⟩
  · intro enabled work
    have hwork : work ↔ s.frame.window = none ∧ s.frame.activePlan[k].function = 1 ∧ s.searchHasWork = true := by
      rw [searchHasWork_iff]
      exact Iff.rfl
    refine ⟨fun h => ?_, fun hw hdisabled => ?_⟩
    · rw [searchAtStart_eq]
      split
      · next hw => exact if_pos (h.resolve_left (not_not.2 (hwork.2 hw)))
      · rfl
    · obtain ⟨n, hn, henabled, hbefore⟩ := nextEnabled_of_disabled hw.2.2.2 hdisabled
      refine ⟨n, ?_, henabled, hbefore⟩
      rw [searchAtStart_eq, if_pos (hwork.1 hw), State.searchFrom, if_neg hdisabled, hn]
      rfl

end Sys2Proof.Machine
end

section
/-! SUPPORT. What the steps after a tool's transition leave: the tilt step, the code step, the pressure, the record
(R54, R63, R74, R82 to R93, R99). -/

namespace Sys2Proof.Machine

/-! ## The tilt step (R83 to R88) -/

/-- A tilt brought within ±`limit` on both axes. -/
def tiltWithin (limit : Nat) (tilt : Pt) : Pt :=
  ⟨max (-(limit : Int)) (min tilt.x limit), max (-(limit : Int)) (min tilt.y limit)⟩

theorem limitTilt_eq (limit : Nat) (tilt : Pt) : limitTilt limit tilt = tiltWithin limit tilt := by
  rw [limitTilt, clamp_eq_max_min (by omega), clamp_eq_max_min (by omega), tiltWithin]

/-- `u` holds the tilt of `t`, brought within `limit` (R87, R89). -/
def TiltHeld (limit : Nat) (t u : Tool) : Prop :=
  u.tilt = tiltWithin limit t.tilt ∧ u.tiltClamped = (t.tiltClamped || tiltWithin limit t.tilt != t.tilt)

theorem clampHeldTilt_held (limit : Nat) (t : Tool) : TiltHeld limit t (t.clampHeldTilt limit) := by
  simp [TiltHeld, Tool.clampHeldTilt, limitTilt_eq]

/-- The tilt step writes the ring position and the tilt alone. -/
theorem tiltStep_eq (e : TrackEnv) (strong : Bool) (t : Tool) : tiltStep e strong t =
    { t with
      ring := (tiltStep e strong t).ring
      tilt := (tiltStep e strong t).tilt
      tiltStale := (tiltStep e strong t).tiltStale
      tiltClamped := (tiltStep e strong t).tiltClamped } := by
  unfold tiltStep
  split
  · rfl
  · dsimp only
    split <;> rfl

theorem strongTilt_eq_none {e : TrackEnv} (h : ∀ o, e.obs.tilt = some o → strength o.xs o.ys < e.effHold) :
    strongTilt e = none := by
  unfold strongTilt
  split
  · next o ho => exact if_pos (h o ho)
  · rfl

theorem strongTilt_eq_some {e : TrackEnv} {o : TiltObs} (ho : e.obs.tilt = some o)
    (hstrong : e.effHold ≤ strength o.xs o.ys) : strongTilt e = some o := by
  unfold strongTilt
  rw [ho]
  exact if_neg (not_lt.2 hstrong)

/-- Without a strong TILT observation the tilt is held (R87). -/
theorem tiltStep_of_none {e : TrackEnv} (h : strongTilt e = none) (strong : Bool) (t : Tool) :
    tiltStep e strong t = t.withHeldTilt e.settings.tracking.tiltLimit := by
  rw [tiltStep, h]

/-- On a strong frame, off an edge, the tilt is computed afresh (R83 to R86). -/
theorem tiltStep_fresh {e : TrackEnv} {o : TiltObs} (h : strongTilt e = some o) (hx : edgePeak o.xs = false)
    (hy : edgePeak o.ys = false) (t : Tool) : tiltStep e true t =
      { t with ring := some (tiltRaw e.settings o) }.withFreshTilt e.settings.tracking.tiltLimit
        (freshTilt (tiltRaw e.settings o) t.raw e.settings.profiles[t.profile].ringHeight) := by
  rw [tiltStep, h]
  simp [hx, hy]

/-- On an edge, or with no strong TRACK observation, the ring position is taken and the tilt held (R88). -/
theorem tiltStep_edge {e : TrackEnv} {o : TiltObs} (h : strongTilt e = some o) {strong : Bool}
    (hedge : strong = false ∨ edgePeak o.xs = true ∨ edgePeak o.ys = true) (t : Tool) : tiltStep e strong t =
      { t with ring := some (tiltRaw e.settings o) }.withHeldTilt e.settings.tracking.tiltLimit := by
  rw [tiltStep, h]
  rcases hedge with hedge | hedge | hedge <;> simp [hedge]

/-! ## The code step (R91 to R99) -/

/-- The code step writes the code and identity fields alone. -/
theorem codeStep_eq (t : Tool) (v : Option Symbol) : t.codeStep v =
    { t with
      acceptedCode := (t.codeStep v).acceptedCode
      codeCandidate := (t.codeStep v).codeCandidate
      identity := (t.codeStep v).identity
      identityStatus := (t.codeStep v).identityStatus
      identityCandidate := (t.codeStep v).identityCandidate
      assembly := (t.codeStep v).assembly } := by
  unfold Tool.codeStep Tool.identityStep Tool.identityCycle Tool.debounce
  dsimp only
  repeat' split
  all_goals rfl

/-- `u` has the code and identity fields of `v`. -/
def SameCode (v u : Tool) : Prop := u.codeCandidate = v.codeCandidate ∧ u.acceptedCode = v.acceptedCode
  ∧ u.assembly = v.assembly ∧ u.identityStatus = v.identityStatus ∧ u.identityCandidate = v.identityCandidate
  ∧ u.identity = v.identity

/-- The code step and the change of the accepted code read the code and identity fields alone. -/
theorem SameCode.codeStep {t w : Tool} (h : SameCode t w) (v : Option Symbol) :
    SameCode (t.codeStep v) (w.codeStep v) ∧ codeChangeOf w v = codeChangeOf t v := by
  obtain ⟨hcandidate, haccepted, hassembly, hstatus, hidentityCandidate, hidentity⟩ := h
  refine ⟨?_, by simp only [codeChangeOf, acceptedBy, hcandidate, haccepted]⟩
  have hw : w = { w with
      codeCandidate := t.codeCandidate, acceptedCode := t.acceptedCode, assembly := t.assembly,
      identityStatus := t.identityStatus, identityCandidate := t.identityCandidate, identity := t.identity } := by
    rw [← hcandidate, ← haccepted, ← hassembly, ← hstatus, ← hidentityCandidate, ← hidentity]
  rw [hw]
  clear hw hcandidate haccepted hassembly hstatus hidentityCandidate hidentity
  unfold SameCode Tool.codeStep Tool.identityStep Tool.identityCycle Tool.debounce acceptedBy
  dsimp only
  repeat' split
  all_goals simp_all

/-! ## After the transition (R54, R82) -/

/-- The kind of the record a transition calls for, `changed` telling whether the accepted code changes (R54). -/
def RecordMark.kindOf (changed : Bool) : RecordMark → Option SampleKind
  | .none => Option.none
  | .kind k => some k
  | .motionOrCode => some (if changed then .code else .motion)

section
variable (e : TrackEnv) (track : Option TrackObs) (held : Bool) (w : Tool) (mark : RecordMark)

/-- The record `w` after its transition keeps every field but tilt, code, identity and pressure; the pressure is the
curve's in CONTACT and 0 otherwise (R82). -/
theorem afterTransition_eq : (afterTransition e track held w mark).tool =
    { w with
      pressure := reportedPressure e.settings.pressure w.state w.n
      ring := (afterTransition e track held w mark).tool.ring
      tilt := (afterTransition e track held w mark).tool.tilt
      tiltStale := (afterTransition e track held w mark).tool.tiltStale
      tiltClamped := (afterTransition e track held w mark).tool.tiltClamped
      acceptedCode := (afterTransition e track held w mark).tool.acceptedCode
      codeCandidate := (afterTransition e track held w mark).tool.codeCandidate
      identity := (afterTransition e track held w mark).tool.identity
      identityStatus := (afterTransition e track held w mark).tool.identityStatus
      identityCandidate := (afterTransition e track held w mark).tool.identityCandidate
      assembly := (afterTransition e track held w mark).tool.assembly } := by
  unfold afterTransition
  split
  · next ha => rw [ha]; rfl
  · dsimp only
    rw [codeStep_eq, tiltStep_eq]

@[simp] theorem afterTransition_state : (afterTransition e track held w mark).tool.state = w.state := by
  rw [afterTransition_eq]
@[simp] theorem afterTransition_raw : (afterTransition e track held w mark).tool.raw = w.raw := by
  rw [afterTransition_eq]
@[simp] theorem afterTransition_rawV : (afterTransition e track held w mark).tool.rawV = w.rawV := by
  rw [afterTransition_eq]
@[simp] theorem afterTransition_pos : (afterTransition e track held w mark).tool.pos = w.pos := by
  rw [afterTransition_eq]
@[simp] theorem afterTransition_vel : (afterTransition e track held w mark).tool.vel = w.vel := by
  rw [afterTransition_eq]
@[simp] theorem afterTransition_rep : (afterTransition e track held w mark).tool.rep = w.rep := by
  rw [afterTransition_eq]
@[simp] theorem afterTransition_n : (afterTransition e track held w mark).tool.n = w.n := by
  rw [afterTransition_eq]
@[simp] theorem afterTransition_phaseZero : (afterTransition e track held w mark).tool.phaseZero = w.phaseZero := by
  rw [afterTransition_eq]
@[simp] theorem afterTransition_stroke : (afterTransition e track held w mark).tool.stroke = w.stroke := by
  rw [afterTransition_eq]
@[simp] theorem afterTransition_strokeOpen : (afterTransition e track held w mark).tool.strokeOpen = w.strokeOpen := by
  rw [afterTransition_eq]
@[simp] theorem afterTransition_confirmCount :
    (afterTransition e track held w mark).tool.confirmCount = w.confirmCount := by
  rw [afterTransition_eq]
@[simp] theorem afterTransition_fadeCount : (afterTransition e track held w mark).tool.fadeCount = w.fadeCount := by
  rw [afterTransition_eq]
@[simp] theorem afterTransition_missCount : (afterTransition e track held w mark).tool.missCount = w.missCount := by
  rw [afterTransition_eq]
@[simp] theorem afterTransition_lastObs : (afterTransition e track held w mark).tool.lastObs = w.lastObs := by
  rw [afterTransition_eq]
@[simp] theorem afterTransition_pressure :
    (afterTransition e track held w mark).tool.pressure = reportedPressure e.settings.pressure w.state w.n := by
  rw [afterTransition_eq]

/-- A tool in ACQUIRE has no step after its transition and writes no record. -/
theorem afterTransition_acquire (h : w.state = .acquire) : afterTransition e track held w mark =
    { tool := { w with pressure := 0 }, draft := none, change := none, known := false } := if_pos h

/-- A mark that calls for no record brings none. -/
theorem afterTransition_noDraft : (afterTransition e track held w .none).draft = none := by
  unfold afterTransition
  split <;> rfl

variable {w} (h : w.state ≠ .acquire)
include h

/-- The record of a tool that is not in ACQUIRE: its kind by the mark, the edge peaks and the code's change (R54, R63). -/
theorem afterTransition_draft : (afterTransition e track held w mark).draft =
    (mark.kindOf (afterTransition e track held w mark).change.isSome).map fun kind =>
      { kind, edgeX := (track.map fun o => edgePeak o.xs).getD false,
        edgeY := (track.map fun o => edgePeak o.ys).getD false, held,
        codeChanged := (afterTransition e track held w mark).change.isSome } := by
  unfold afterTransition
  rw [if_neg h]
  cases mark <;> rfl

/-- The code step runs on the frame's CODE observation (R91, R93, R99). -/
theorem afterTransition_code :
    SameCode (w.codeStep (validSymbol e.effHold e.obs.code)) (afterTransition e track held w mark).tool
      ∧ (afterTransition e track held w mark).change = codeChangeOf w (validSymbol e.effHold e.obs.code)
      ∧ ((afterTransition e track held w mark).known = true ↔
        w.identityStatus ≠ .known ∧ (afterTransition e track held w mark).tool.identityStatus = .known) := by
  have htilted : SameCode w (tiltStep e track.isSome w) := by
    rw [tiltStep_eq]
    exact ⟨rfl, rfl, rfl, rfl, rfl, rfl⟩
  obtain ⟨hcode, hchange⟩ := htilted.codeStep (validSymbol e.effHold e.obs.code)
  have hstatus : (tiltStep e track.isSome w).identityStatus = w.identityStatus := by rw [tiltStep_eq]
  unfold afterTransition
  rw [if_neg h]
  refine ⟨hcode, hchange, ?_⟩
  simp [becameKnown, hstatus]

/-- Ring position and tilt are the tilt step's (R83 to R88). -/
theorem afterTransition_tilt : let u := (afterTransition e track held w mark).tool
    u.ring = (tiltStep e track.isSome w).ring ∧ u.tilt = (tiltStep e track.isSome w).tilt
      ∧ u.tiltStale = (tiltStep e track.isSome w).tiltStale
      ∧ u.tiltClamped = (tiltStep e track.isSome w).tiltClamped := by
  unfold afterTransition
  rw [if_neg h]
  dsimp only
  rw [codeStep_eq]
  exact ⟨rfl, rfl, rfl, rfl⟩

end

end Sys2Proof.Machine
end

section
/-! SUPPORT. A tool's frame end by the class of the frame: exempt, missing, weak, strong (R47 to R53, R56, R57). -/

namespace Sys2Proof.Machine

/-! ## Departure (R46, R54, R89) -/

/-- The frame end `r` of a tool that leaves, `t` its record before it (R49, R53, R54, R56, R57, R89). -/
def ToolLeaves (limit : Nat) (t : Tool) (r : ToolEnd) : Prop :=
  r.tool.state = .vacant ∧ (r.change = none ∧ r.known = false)
    ∧ r.draft = (if t.state = .acquire then none
        else some { kind := .leave, edgeX := false, edgeY := false, held := false, codeChanged := false })
    ∧ (t.state ≠ .acquire → TiltHeld limit t r.tool ∧ r.tool.tiltStale = t.tiltStale ∧ SameCode t r.tool
        ∧ r.tool.rep = t.rep ∧ r.tool.stroke = t.stroke ∧ r.tool.pressure = 0)

theorem departure_state (limit : Nat) (t : Tool) : (departure limit t).tool.state = .vacant := by
  unfold departure
  split <;> rfl

/-- A departure reads neither count. -/
theorem departure_leaves (limit : Nat) (t : Tool) (misses fades : Nat) :
    ToolLeaves limit t (departure limit { t with missCount := misses, fadeCount := fades }) := by
  refine ⟨departure_state .., ?_, ?_, fun ha => ?_⟩
  · unfold departure
    split <;> exact ⟨rfl, rfl⟩
  · unfold departure
    dsimp only
    split <;> rfl
  · rw [departure, if_neg ha]
    exact ⟨clampHeldTilt_held limit t, rfl, ⟨rfl, rfl, rfl, rfl, rfl, rfl⟩, rfl, rfl, rfl⟩

/-! ## The class of the frame (R47) -/

section
variable {e : TrackEnv} {t : Tool} (hv : t.state ≠ .vacant)
include hv

theorem toolFrameEnd_of_marked (h : t.releaseMark = true ∨ e.entersHeld = true) :
    toolFrameEnd e t = departure e.settings.tracking.tiltLimit t := by
  rw [toolFrameEnd, if_neg hv, if_pos h]

variable (hmark : t.releaseMark = false) (hheld : e.entersHeld = false)
include hmark hheld

theorem toolFrameEnd_exempt (hnone : e.obs.track = none) (hcount : t.lastObs = e.count) (hun : e.trackUnneeded = true) :
    toolFrameEnd e t = { tool := t, draft := none, change := none, known := false } := by
  have hclass : classify e t = .exempt := by simp [classify, hnone, hcount, hun]
  rw [toolFrameEnd, if_neg hv, if_neg (by simp [hmark, hheld]), hclass]

theorem toolFrameEnd_missing (hnone : e.obs.track = none) (h : t.lastObs ≠ e.count ∨ e.trackUnneeded = false) :
    toolFrameEnd e t = missingEnd e t := by
  have hclass : classify e t = .missing := by
    simp only [classify, hnone]
    refine if_neg ?_
    rintro ⟨hcount, hun⟩
    rcases h with h | h
    · exact h hcount
    · simp [h] at hun
  rw [toolFrameEnd, if_neg hv, if_neg (by simp [hmark, hheld]), hclass]

theorem toolFrameEnd_weak {o : TrackObs} (ho : e.obs.track = some o) (h : strength o.xs o.ys < e.effHold) :
    toolFrameEnd e t = weakEnd e t := by
  have hclass : classify e t = .weak := by simp [classify, ho, h]
  rw [toolFrameEnd, if_neg hv, if_neg (by simp [hmark, hheld]), hclass]

theorem toolFrameEnd_strong {o : TrackObs} (ho : e.obs.track = some o) (h : e.effHold ≤ strength o.xs o.ys) :
    toolFrameEnd e t = strongEnd e t o := by
  have hclass : classify e t = .strong o := by simp [classify, ho, not_lt.2 h]
  rw [toolFrameEnd, if_neg hv, if_neg (by simp [hmark, hheld]), hclass]

end

/-! ## Missing and weak frames (R49 to R53) -/

section
variable {e : TrackEnv} {t : Tool}

theorem missingEnd_departs (h : e.settings.tracking.missLimit ≤ t.missCount + 1) :
    missingEnd e t = departure e.settings.tracking.tiltLimit { t with missCount := t.missCount + 1 } := if_pos h

theorem missingEnd_stays (h : t.missCount + 1 < e.settings.tracking.missLimit) :
    missingEnd e t = afterTransition e none false { t with missCount := t.missCount + 1 } .none := if_neg (not_le.2 h)

theorem weakEnd_departs (h : t.state = .acquire ∨ e.settings.tracking.fadeFrames ≤ fadeCountAfter t) :
    weakEnd e t =
      departure e.settings.tracking.tiltLimit { t with missCount := 0, fadeCount := fadeCountAfter t } := if_pos h

theorem weakEnd_stays (ha : t.state ≠ .acquire) (h : fadeCountAfter t < e.settings.tracking.fadeFrames) :
    weakEnd e t =
      afterTransition e none false { t with missCount := 0, fadeCount := fadeCountAfter t, state := .fade } .none := by
  refine if_neg ?_
  rintro (hacquire | hfades)
  · exact ha hacquire
  · exact not_le.2 h hfades

end

/-! ## Strong frames (R48, R50 to R53) -/

/-- The record of a tool in ACQUIRE that a strong frame has updated (R48). -/
def strongAcquiring (e : TrackEnv) (t : Tool) (o : TrackObs) : Tool :=
  { t with
    missCount := 0, raw := trackRaw e.settings o, pos := some (corrected e.settings (trackRaw e.settings o)),
    lastObs := e.count }

/-- The normalised tip value of a strong frame (R76). -/
def strongTip (e : TrackEnv) (t : Tool) (o : TrackObs) : Nat :=
  normalised (offsetOf t o) e.settings.profiles[t.profile].phaseSpan

/-- The record of any other tool that a strong frame has updated (R48). -/
def strongTracked (e : TrackEnv) (t : Tool) (o : TrackObs) : Tool :=
  let raw := trackRaw e.settings o
  let pos := corrected e.settings raw
  let k := (e.count - t.lastObs).toNat
  { t with
    missCount := 0, raw, rawV := velocity raw t.raw k, pos := some pos, vel := velocity pos (t.pos.getD pos) k,
    rep := if heldBy e t o then t.rep else some pos, n := strongTip e t o, lastObs := e.count }

theorem strongEnd_acquiring {e : TrackEnv} {t : Tool} {o : TrackObs} (h : t.state = .acquire) : strongEnd e t o =
    let r := strongTransition e.settings (offsetOf t o) (strongAcquiring e t o)
    afterTransition e (some o) (heldBy e t o) r.1 r.2 := by
  rw [strongEnd, positionUpdate, if_pos h]
  rfl

theorem strongEnd_tracking {e : TrackEnv} {t : Tool} {o : TrackObs} (h : t.state ≠ .acquire) : strongEnd e t o =
    let r := strongTransition e.settings (offsetOf t o) (strongTracked e t o)
    afterTransition e (some o) (heldBy e t o) r.1 r.2 := by
  rw [strongEnd, positionUpdate, if_neg h]
  rfl

section
variable {c : Settings} {pr : Int} {t : Tool}

theorem strongTransition_confirming (h : t.state = .acquire) (hcount : t.confirmCount < 2) :
    strongTransition c pr t = ({ t with confirmCount := t.confirmCount + 1 }, .none) := by
  simp only [strongTransition, h, Config.confirmFrames]
  exact if_pos (by omega)

theorem strongTransition_entered (h : t.state = .acquire) (hcount : 2 ≤ t.confirmCount) :
    strongTransition c pr t = (t.entered c, .kind .enter) := by
  simp only [strongTransition, h, Config.confirmFrames]
  exact if_neg (by omega)

theorem strongTransition_hover (h : t.state = .hover) : strongTransition c pr t =
    if c.pressure.down ≤ t.n then (t.strokeBegun, .kind .strokeBegin) else (t.hovering pr, .motionOrCode) := by
  simp only [strongTransition, h]

theorem strongTransition_contact (h : t.state = .contact) : strongTransition c pr t =
    if t.n < c.pressure.up then (t.strokeEnded, .kind .strokeEnd) else (t, .motionOrCode) := by
  simp only [strongTransition, h]

theorem strongTransition_fade (h : t.state = .fade) (w : Tool) (hw : w = { t with fadeCount := 0 }) :
    strongTransition c pr t =
      if t.strokeOpen = true then
        if c.pressure.up ≤ t.n then ({ w with state := .contact }, .motionOrCode) else (w.strokeEnded, .kind .strokeEnd)
      else if c.pressure.down ≤ t.n then (w.strokeBegun, .kind .strokeBegin) else (w.hovering pr, .motionOrCode) := by
  subst hw
  simp only [strongTransition, h]

/-- A strong transition keeps every field but these (R50 to R53). -/
theorem strongTransition_eq : (strongTransition c pr t).1 =
    { t with
      state := (strongTransition c pr t).1.state
      rawV := (strongTransition c pr t).1.rawV
      vel := (strongTransition c pr t).1.vel
      rep := (strongTransition c pr t).1.rep
      phaseZero := (strongTransition c pr t).1.phaseZero
      stroke := (strongTransition c pr t).1.stroke
      strokeOpen := (strongTransition c pr t).1.strokeOpen
      confirmCount := (strongTransition c pr t).1.confirmCount
      fadeCount := (strongTransition c pr t).1.fadeCount } := by
  unfold strongTransition
  dsimp only
  repeat' split
  all_goals rfl

/-- A tool in HOVER, CONTACT or FADE keeps its velocities and reported position, stays tracked, and writes a record. -/
theorem strongTransition_tracked (hv : t.state ≠ .vacant) (ha : t.state ≠ .acquire) :
    (strongTransition c pr t).1.rawV = t.rawV ∧ (strongTransition c pr t).1.vel = t.vel
      ∧ (strongTransition c pr t).1.rep = t.rep ∧ (strongTransition c pr t).1.state ≠ .vacant
      ∧ (strongTransition c pr t).1.state ≠ .acquire
      ∧ ∀ changed, ((strongTransition c pr t).2.kindOf changed).isSome = true := by
  rcases staying hv ha with h | h | h
  · rw [strongTransition_hover h]
    split <;> simp [Tool.strokeBegun, Tool.hovering, RecordMark.kindOf]
  · rw [strongTransition_contact h]
    split <;> simp [Tool.strokeEnded, RecordMark.kindOf, h]
  · rw [strongTransition_fade h _ rfl]
    split <;> split <;> simp [Tool.strokeBegun, Tool.strokeEnded, Tool.hovering, RecordMark.kindOf]

end

/-! ## What the tilt and code steps find of the record before the frame -/

/-- `w` has what the tilt step and the code step read of `t`. -/
structure CarriesOver (t w : Tool) : Prop where
  profile : w.profile = t.profile
  ring : w.ring = t.ring
  tilt : w.tilt = t.tilt
  tiltClamped : w.tiltClamped = t.tiltClamped
  code : SameCode t w

/-- The frame's TRACK observation is strong (R47). -/
def StrongTrack (e : TrackEnv) : Prop := ∃ o, e.obs.track = some o ∧ e.effHold ≤ strength o.xs o.ys

theorem strongTransition_carriesOver {c : Settings} {pr : Int} {t w : Tool} (h : CarriesOver t w) :
    CarriesOver t (strongTransition c pr w).1 := by
  obtain ⟨hprofile, hring, htilt, hclamped, hcode⟩ := h
  rw [strongTransition_eq]
  exact ⟨hprofile, hring, htilt, hclamped, hcode⟩

theorem strongEnd_carriesOver (e : TrackEnv) (t : Tool) (o : TrackObs) : ∃ w held mark,
    strongEnd e t o = afterTransition e (some o) held w mark ∧ CarriesOver t w := by
  by_cases ha : t.state = .acquire
  · have hbefore : CarriesOver t (strongAcquiring e t o) := ⟨rfl, rfl, rfl, rfl, rfl, rfl, rfl, rfl, rfl, rfl⟩
    exact ⟨_, _, _, strongEnd_acquiring ha, strongTransition_carriesOver hbefore⟩
  · have hbefore : CarriesOver t (strongTracked e t o) := ⟨rfl, rfl, rfl, rfl, rfl, rfl, rfl, rfl, rfl, rfl⟩
    exact ⟨_, _, _, strongEnd_tracking ha, strongTransition_carriesOver hbefore⟩

/-- A tool that stays, in a frame it is not exempt from, takes the steps after a transition on a record that carries over
what they read. -/
theorem toolFrameEnd_stays {e : TrackEnv} {t : Tool} (hv : t.state ≠ .vacant) (hmark : t.releaseMark = false)
    (hheld : e.entersHeld = false) (hjudged : e.obs.track ≠ none ∨ t.lastObs ≠ e.count ∨ e.trackUnneeded = false)
    (hstays : (toolFrameEnd e t).tool.state ≠ .vacant) : ∃ track held w mark,
      toolFrameEnd e t = afterTransition e track held w mark ∧ CarriesOver t w
        ∧ (track.isSome = true ↔ StrongTrack e) := by
  cases ho : e.obs.track with
  | none =>
    have hweak : ¬ StrongTrack e := fun ⟨o, ho', _⟩ => by simp [ho] at ho'
    have hmissing : toolFrameEnd e t = missingEnd e t :=
      toolFrameEnd_missing hv hmark hheld ho (hjudged.resolve_left (not_not.2 ho))
    rcases le_or_gt e.settings.tracking.missLimit (t.missCount + 1) with h | h
    · rw [hmissing, missingEnd_departs h] at hstays
      exact absurd (departure_state ..) hstays
    · exact ⟨none, _, _, _, hmissing.trans (missingEnd_stays h), ⟨rfl, rfl, rfl, rfl, rfl, rfl, rfl, rfl, rfl, rfl⟩,
        iff_of_false (by simp) hweak⟩
  | some o =>
    rcases lt_or_ge (strength o.xs o.ys) e.effHold with h | h
    · have hweak : ¬ StrongTrack e := by
        rintro ⟨o', ho', hle⟩
        cases ho.symm.trans ho'
        exact not_lt.2 hle h
      have hend := toolFrameEnd_weak hv hmark hheld ho h
      by_cases hdeparts : t.state = .acquire ∨ e.settings.tracking.fadeFrames ≤ fadeCountAfter t
      · rw [hend, weakEnd_departs hdeparts] at hstays
        exact absurd (departure_state ..) hstays
      · rw [not_or, not_le] at hdeparts
        exact ⟨none, _, _, _, hend.trans (weakEnd_stays hdeparts.1 hdeparts.2),
          ⟨rfl, rfl, rfl, rfl, rfl, rfl, rfl, rfl, rfl, rfl⟩, iff_of_false (by simp) hweak⟩
    · obtain ⟨w, held, mark, hend, hcarries⟩ := strongEnd_carriesOver e t o
      exact ⟨some o, held, w, mark, (toolFrameEnd_strong hv hmark hheld ho h).trans hend, hcarries,
        iff_of_true rfl ⟨o, ho, h⟩⟩

/-- A tool that is in ACQUIRE at the frame end has taken no code step (R91). -/
theorem toolFrameEnd_acquire {e : TrackEnv} {t : Tool} (hv : t.state ≠ .vacant) (hmark : t.releaseMark = false)
    (hheld : e.entersHeld = false) (hacquire : (toolFrameEnd e t).tool.state = .acquire) :
    SameCode t (toolFrameEnd e t).tool ∧ (toolFrameEnd e t).change = none ∧ (toolFrameEnd e t).known = false := by
  by_cases hjudged : e.obs.track ≠ none ∨ t.lastObs ≠ e.count ∨ e.trackUnneeded = false
  · obtain ⟨track, held, w, mark, hend, hw, -⟩ :=
      toolFrameEnd_stays hv hmark hheld hjudged (fun h => by cases hacquire.symm.trans h)
    rw [hend, afterTransition_state] at hacquire
    rw [hend, afterTransition_acquire _ _ _ _ _ hacquire]
    exact ⟨hw.code, rfl, rfl⟩
  · simp only [not_or, not_not, Bool.not_eq_false] at hjudged
    rw [toolFrameEnd_exempt hv hmark hheld hjudged.1 hjudged.2.1 hjudged.2.2]
    exact ⟨⟨rfl, rfl, rfl, rfl, rfl, rfl⟩, rfl, rfl⟩

section
variable {e : TrackEnv} {track : Option TrackObs} {held : Bool} {t w : Tool} {mark : RecordMark}
  (hw : CarriesOver t w) (ha : w.state ≠ .acquire)
include hw ha

/-- The code step runs on the code and identity fields from before the frame (R91, R93, R99). -/
theorem CarriesOver.codes : let r := afterTransition e track held w mark
    let v := validSymbol e.effHold e.obs.code
    SameCode (t.codeStep v) r.tool ∧ r.change = codeChangeOf t v
      ∧ (r.known = true ↔ t.identityStatus ≠ .known ∧ r.tool.identityStatus = .known) := by
  obtain ⟨hcode, hchange, hknown⟩ := afterTransition_code e track held mark ha
  obtain ⟨hstep, hchange'⟩ := hw.code.codeStep (validSymbol e.effHold e.obs.code)
  have hstatus : w.identityStatus = t.identityStatus := hw.code.2.2.2.1
  refine ⟨?_, hchange.trans hchange', hstatus ▸ hknown⟩
  obtain ⟨h1, h2, h3, h4, h5, h6⟩ := hcode
  obtain ⟨g1, g2, g3, g4, g5, g6⟩ := hstep
  exact ⟨h1.trans g1, h2.trans g2, h3.trans g3, h4.trans g4, h5.trans g5, h6.trans g6⟩

/-- With no strong TILT observation the tilt from before the frame is held (R87). -/
theorem CarriesOver.tilt_none (hnone : strongTilt e = none) : let u := (afterTransition e track held w mark).tool
    u.ring = t.ring ∧ TiltHeld e.settings.tracking.tiltLimit t u ∧ u.tiltStale = true := by
  obtain ⟨hring, htilt, hstale, hclamped⟩ := afterTransition_tilt e track held mark ha
  obtain ⟨hheld, hheldClamped⟩ := clampHeldTilt_held e.settings.tracking.tiltLimit w
  rw [tiltStep_of_none hnone] at hring htilt hstale hclamped
  rw [hw.tilt] at hheld hheldClamped
  rw [hw.tiltClamped] at hheldClamped
  exact ⟨hring.trans hw.ring, ⟨htilt.trans hheld, hclamped.trans hheldClamped⟩, hstale⟩

/-- On an edge, or with no strong TRACK observation, the ring position is taken and the tilt held (R88). -/
theorem CarriesOver.tilt_edge {o : TiltObs} (ho : strongTilt e = some o)
    (hedge : track.isSome = false ∨ edgePeak o.xs = true ∨ edgePeak o.ys = true) :
    let u := (afterTransition e track held w mark).tool
    TiltHeld e.settings.tracking.tiltLimit t u ∧ u.tiltStale = true := by
  obtain ⟨-, htilt, hstale, hclamped⟩ := afterTransition_tilt e track held mark ha
  obtain ⟨hheld, hheldClamped⟩ := clampHeldTilt_held e.settings.tracking.tiltLimit w
  rw [tiltStep_edge ho hedge] at htilt hstale hclamped
  rw [hw.tilt] at hheld hheldClamped
  rw [hw.tiltClamped] at hheldClamped
  exact ⟨⟨htilt.trans hheld, hclamped.trans hheldClamped⟩, hstale⟩

omit hw in
/-- A strong TILT observation gives the ring position (R88). -/
theorem afterTransition_ring {o : TiltObs} (ho : strongTilt e = some o) :
    (afterTransition e track held w mark).tool.ring = some (tiltRaw e.settings o) := by
  rw [(afterTransition_tilt e track held mark ha).1, tiltStep, ho]
  dsimp only
  split <;> rfl

/-- A strong frame with a strong TILT observation off its edges computes the tilt afresh (R83 to R86). -/
theorem CarriesOver.tilt_fresh {o : TiltObs} (ho : strongTilt e = some o) (htrack : track.isSome = true)
    (hx : edgePeak o.xs = false) (hy : edgePeak o.ys = false) :
    let u := (afterTransition e track held w mark).tool
    let lean := freshTilt (tiltRaw e.settings o) u.raw e.settings.profiles[t.profile].ringHeight
    u.tilt = tiltWithin e.settings.tracking.tiltLimit lean ∧ u.tiltStale = false
      ∧ u.tiltClamped = (tiltWithin e.settings.tracking.tiltLimit lean != lean) := by
  obtain ⟨-, htilt, hstale, hclamped⟩ := afterTransition_tilt e track held mark ha
  rw [htrack, tiltStep_fresh ho hx hy] at htilt hstale hclamped
  dsimp only
  rw [htilt, hstale, hclamped]
  simp [Tool.withFreshTilt, limitTilt_eq, hw.profile]

end

end Sys2Proof.Machine
end

section
/-! SUPPORT. The strong frame of each tool state: strokes, hovering, the entry from ACQUIRE (R48, R50 to R54, R70, R77). -/

namespace Sys2Proof.Machine

/-! ## What a strong frame brings -/

/-- The frame end `r` opens a stroke of `t` (R51, R53). -/
def StrokeOpens (c : Pressure) (n : Nat) (t : Tool) (r : ToolEnd) : Prop :=
  r.tool.state = .contact ∧ r.draft.map (·.kind) = some .strokeBegin ∧ r.tool.stroke = t.stroke + 1
    ∧ r.tool.strokeOpen = true ∧ r.tool.phaseZero = t.phaseZero ∧ r.tool.pressure = curve c n

/-- The frame end `r` closes the stroke of `t` (R52, R53). -/
def StrokeCloses (t : Tool) (r : ToolEnd) : Prop :=
  r.tool.state = .hover ∧ r.draft.map (·.kind) = some .strokeEnd ∧ r.tool.strokeOpen = false
    ∧ r.tool.stroke = t.stroke ∧ r.tool.pressure = 0 ∧ r.tool.phaseZero = t.phaseZero

/-- The record that `r` writes is MOTION, or CODE when the accepted code changes (R54). -/
def WritesMotion (r : ToolEnd) : Prop := r.draft.map (·.kind) = some (if r.change.isSome then .code else .motion)

/-- The stroke of `t` goes on at `r` (R52, R53). -/
def StrokeStays (c : Pressure) (n : Nat) (t : Tool) (r : ToolEnd) : Prop :=
  r.tool.state = .contact ∧ WritesMotion r ∧ r.tool.stroke = t.stroke ∧ r.tool.strokeOpen = t.strokeOpen
    ∧ r.tool.pressure = curve c n ∧ r.tool.phaseZero = t.phaseZero

/-- The tool hovers on at `r`, PhaseZero adapted by `pr` (R51, R53, R77). -/
def HoversOn (pr : Int) (t : Tool) (r : ToolEnd) : Prop :=
  r.tool.state = .hover ∧ WritesMotion r ∧ r.tool.stroke = t.stroke ∧ r.tool.strokeOpen = t.strokeOpen
    ∧ r.tool.pressure = 0
    ∧ (r.tool.phaseZero : Int) = (if pr.natAbs ≤ 32 then (t.phaseZero + pr.tdiv 8) % 1024 else t.phaseZero)

theorem magnitude_le_natCast_iff {v : Int} {b : Nat} : magnitude v ≤ b ↔ v.natAbs ≤ b := by
  rw [magnitude_le_iff]
  omega

/-- PhaseZero after the adaptation of a frame whose signed offset is `pr` (R77). -/
theorem adapted_eq (z : Nat) (pr : Int) :
    (adapted z pr : Int) = if pr.natAbs ≤ 32 then (z + pr.tdiv 8) % 1024 else z := by
  have hlimit : magnitude pr ≤ Config.adaptLimit ↔ pr.natAbs ≤ 32 := magnitude_le_natCast_iff (b := 32)
  unfold adapted
  simp only [hlimit, truncDiv]
  split
  · exact Int.toNat_of_nonneg (Int.emod_nonneg _ (by decide))
  · rfl

theorem afterTransition_kind {e : TrackEnv} {track : Option TrackObs} {held : Bool} {w : Tool} {mark : RecordMark}
    (ha : w.state ≠ .acquire) : (afterTransition e track held w mark).draft.map (·.kind) =
      mark.kindOf (afterTransition e track held w mark).change.isSome := by
  rw [afterTransition_draft e track held mark ha, Option.map_map]
  exact Option.map_id'

section
variable {e : TrackEnv} {track : Option TrackObs} {held : Bool} {t w : Tool} (hstroke : w.stroke = t.stroke)
include hstroke

theorem strokeBegun_opens {n : Nat} (hzero : w.phaseZero = t.phaseZero) (hn : w.n = n) :
    StrokeOpens e.settings.pressure n t (afterTransition e track held w.strokeBegun (.kind .strokeBegin)) :=
  ⟨by simp [Tool.strokeBegun], afterTransition_kind (by simp [Tool.strokeBegun]), by simp [Tool.strokeBegun, hstroke],
    by simp [Tool.strokeBegun], by simp [Tool.strokeBegun, hzero],
    by simp [Tool.strokeBegun, reportedPressure, hn]⟩

theorem strokeEnded_closes (hzero : w.phaseZero = t.phaseZero) :
    StrokeCloses t (afterTransition e track held w.strokeEnded (.kind .strokeEnd)) :=
  ⟨by simp [Tool.strokeEnded], afterTransition_kind (by simp [Tool.strokeEnded]), by simp [Tool.strokeEnded],
    by simp [Tool.strokeEnded, hstroke], by simp [Tool.strokeEnded, reportedPressure], by simp [Tool.strokeEnded, hzero]⟩

variable (hopen : w.strokeOpen = t.strokeOpen)
include hopen

theorem contact_stays {n : Nat} (hzero : w.phaseZero = t.phaseZero) (hn : w.n = n) (hcontact : w.state = .contact) :
    StrokeStays e.settings.pressure n t (afterTransition e track held w .motionOrCode) :=
  ⟨by simp [hcontact], afterTransition_kind (by simp [hcontact]), by simp [hstroke], by simp [hopen],
    by simp [hcontact, reportedPressure, hn], by simp [hzero]⟩

theorem hovering_on {pr : Int} (hzero : w.phaseZero = t.phaseZero) :
    HoversOn pr t (afterTransition e track held (w.hovering pr) .motionOrCode) :=
  ⟨by simp [Tool.hovering], afterTransition_kind (by simp [Tool.hovering]), by simp [Tool.hovering, hstroke],
    by simp [Tool.hovering, hopen], by simp [Tool.hovering, reportedPressure],
    by simp [Tool.hovering, adapted_eq, hzero]⟩

end

/-! ## A strong frame in each state -/

section
variable {e : TrackEnv} {t : Tool} {o : TrackObs}

/-- HOVER: a stroke opens at DownThreshold (R51). -/
theorem strongEnd_hover (h : t.state = .hover) :
    (e.settings.pressure.down ≤ strongTip e t o →
      StrokeOpens e.settings.pressure (strongTip e t o) t (strongEnd e t o))
    ∧ (strongTip e t o < e.settings.pressure.down → HoversOn (offsetOf t o) t (strongEnd e t o)) := by
  have hend := strongEnd_tracking (e := e) (o := o) (show t.state ≠ .acquire by simp [h])
  rw [hend, strongTransition_hover (show (strongTracked e t o).state = .hover from h)]
  refine ⟨fun hdown => ?_, fun hdown => ?_⟩
  · rw [if_pos (show e.settings.pressure.down ≤ (strongTracked e t o).n from hdown)]
    exact strokeBegun_opens rfl rfl rfl
  · rw [if_neg (show ¬ e.settings.pressure.down ≤ (strongTracked e t o).n from not_le.2 hdown)]
    exact hovering_on rfl rfl rfl

/-- CONTACT: the stroke closes below UpThreshold (R52). -/
theorem strongEnd_contact (h : t.state = .contact) :
    (e.settings.pressure.up ≤ strongTip e t o →
      StrokeStays e.settings.pressure (strongTip e t o) t (strongEnd e t o))
    ∧ (strongTip e t o < e.settings.pressure.up → StrokeCloses t (strongEnd e t o)) := by
  have hend := strongEnd_tracking (e := e) (o := o) (show t.state ≠ .acquire by simp [h])
  rw [hend, strongTransition_contact (show (strongTracked e t o).state = .contact from h)]
  refine ⟨fun hup => ?_, fun hup => ?_⟩
  · rw [if_neg (show ¬ (strongTracked e t o).n < e.settings.pressure.up from not_lt.2 hup)]
    exact contact_stays rfl rfl rfl rfl h
  · rw [if_pos (show (strongTracked e t o).n < e.settings.pressure.up from hup)]
    exact strokeEnded_closes rfl rfl

/-- FADE: the tool comes back to CONTACT or to HOVER by its stroke and its tip (R53). -/
theorem strongEnd_fade (h : t.state = .fade) :
    (strongEnd e t o).tool.fadeCount = 0
    ∧ (t.strokeOpen = true → e.settings.pressure.up ≤ strongTip e t o →
        StrokeStays e.settings.pressure (strongTip e t o) t (strongEnd e t o))
    ∧ (t.strokeOpen = true → strongTip e t o < e.settings.pressure.up → StrokeCloses t (strongEnd e t o))
    ∧ (t.strokeOpen = false → e.settings.pressure.down ≤ strongTip e t o →
        StrokeOpens e.settings.pressure (strongTip e t o) t (strongEnd e t o))
    ∧ (t.strokeOpen = false → strongTip e t o < e.settings.pressure.down → HoversOn (offsetOf t o) t (strongEnd e t o)) := by
  have hend := strongEnd_tracking (e := e) (o := o) (show t.state ≠ .acquire by simp [h])
  obtain ⟨w, hw⟩ : ∃ w, w = { strongTracked e t o with fadeCount := 0 } := ⟨_, rfl⟩
  have hstroke : w.stroke = t.stroke := by rw [hw]; rfl
  have hopen : w.strokeOpen = t.strokeOpen := by rw [hw]; rfl
  have hzero : w.phaseZero = t.phaseZero := by rw [hw]; rfl
  have hn : w.n = strongTip e t o := by rw [hw]; rfl
  have hfade : w.fadeCount = 0 := by rw [hw]
  have htransition : strongTransition e.settings (offsetOf t o) (strongTracked e t o) =
      if t.strokeOpen = true then
        if e.settings.pressure.up ≤ strongTip e t o then ({ w with state := .contact }, .motionOrCode)
        else (w.strokeEnded, .kind .strokeEnd)
      else if e.settings.pressure.down ≤ strongTip e t o then (w.strokeBegun, .kind .strokeBegin)
      else (w.hovering (offsetOf t o), .motionOrCode) :=
    strongTransition_fade (show (strongTracked e t o).state = .fade from h) w hw
  rw [hend, htransition]
  refine ⟨?_, fun hop hup => ?_, fun hop hup => ?_, fun hop hdown => ?_, fun hop hdown => ?_⟩
  · split <;> split <;> simp [Tool.strokeEnded, Tool.strokeBegun, Tool.hovering, hfade]
  · rw [if_pos hop, if_pos hup]
    exact contact_stays (w := { w with state := .contact }) hstroke hopen hzero hn rfl
  · rw [if_pos hop, if_neg (not_le.2 hup)]
    exact strokeEnded_closes hstroke hzero
  · rw [if_neg (by simp [hop]), if_pos hdown]
    exact strokeBegun_opens hstroke hzero hn
  · rw [if_neg (by simp [hop]), if_neg (not_le.2 hdown)]
    exact hovering_on hstroke hopen hzero

/-- ACQUIRE: the confirmation counts on (R50). -/
theorem strongEnd_confirming (h : t.state = .acquire) (hcount : t.confirmCount < 2) : strongEnd e t o =
    { tool := { strongAcquiring e t o with confirmCount := t.confirmCount + 1, pressure := 0 }, draft := none, change := none,
      known := false } := by
  have hacquire : (strongAcquiring e t o).state = .acquire := h
  rw [strongEnd_acquiring h, strongTransition_confirming hacquire hcount]
  exact afterTransition_acquire _ _ _ _ _ hacquire

/-- What every strong frame writes of a tool that it finds (R47, R48, R54). -/
theorem strongEnd_always (e : TrackEnv) (t : Tool) (o : TrackObs) : let r := strongEnd e t o
    r.tool.missCount = 0 ∧ r.tool.lastObs = e.count ∧ r.tool.raw = trackRaw e.settings o
      ∧ r.tool.pos = some (corrected e.settings (trackRaw e.settings o))
      ∧ ∀ d, r.draft = some d →
          d.edgeX = edgePeak o.xs ∧ d.edgeY = edgePeak o.ys ∧ d.codeChanged = r.change.isSome := by
  obtain ⟨w, hw, hmiss, hlast, hraw, hpos⟩ : ∃ w, strongEnd e t o = (let x := strongTransition e.settings (offsetOf t o) w
      afterTransition e (some o) (heldBy e t o) x.1 x.2) ∧ w.missCount = 0 ∧ w.lastObs = e.count
      ∧ w.raw = trackRaw e.settings o ∧ w.pos = some (corrected e.settings (trackRaw e.settings o)) := by
    by_cases ha : t.state = .acquire
    · exact ⟨_, strongEnd_acquiring ha, rfl, rfl, rfl, rfl⟩
    · exact ⟨_, strongEnd_tracking ha, rfl, rfl, rfl, rfl⟩
  dsimp only at hw ⊢
  rw [hw]
  generalize (strongTransition e.settings (offsetOf t o) w).2 = mark
  refine ⟨?_, ?_, ?_, ?_, fun d hd => ?_⟩
  · rw [afterTransition_missCount, strongTransition_eq]; exact hmiss
  · rw [afterTransition_lastObs, strongTransition_eq]; exact hlast
  · rw [afterTransition_raw, strongTransition_eq]; exact hraw
  · rw [afterTransition_pos, strongTransition_eq]; exact hpos
  · by_cases ha : (strongTransition e.settings (offsetOf t o) w).1.state = .acquire
    · rw [afterTransition_acquire _ _ _ _ _ ha] at hd
      cases hd
    · rw [afterTransition_draft _ _ _ _ ha, Option.map_eq_some_iff] at hd
      obtain ⟨kind, -, rfl⟩ := hd
      exact ⟨rfl, rfl, rfl⟩

/-- A strong frame of a tool in HOVER, CONTACT or FADE takes the tip value and the velocities over the gap, and holds
the reported position within the deadband (R48, R70, R76). -/
theorem strongEnd_tracked (hv : t.state ≠ .vacant) (ha : t.state ≠ .acquire) : let r := strongEnd e t o
    r.tool.n = strongTip e t o ∧ r.tool.rawV = (strongTracked e t o).rawV ∧ r.tool.vel = (strongTracked e t o).vel
      ∧ r.tool.rep = (strongTracked e t o).rep ∧ r.draft.map (·.held) = some (heldBy e t o) := by
  obtain ⟨hrawV, hvel, hrep, -, hstays, hkind⟩ :=
    strongTransition_tracked (c := e.settings) (pr := offsetOf t o) (t := strongTracked e t o) hv ha
  rw [strongEnd_tracking ha]
  dsimp only
  refine ⟨?_, by rw [afterTransition_rawV, hrawV], by rw [afterTransition_vel, hvel], by rw [afterTransition_rep, hrep], ?_⟩
  · rw [afterTransition_n, strongTransition_eq]
    rfl
  · rw [afterTransition_draft _ _ _ _ hstays, Option.map_map]
    obtain ⟨kind, hsome⟩ := Option.isSome_iff_exists.1 (hkind (afterTransition e (some o) (heldBy e t o) _ _).change.isSome)
    rw [hsome]
    rfl

/-- The deadband keeps the reported position when both differences are within it (R70). -/
theorem heldBy_eq {rep : Pt} (ha : t.state ≠ .acquire) (hrep : t.rep = some rep) : heldBy e t o =
    (decide (((corrected e.settings (trackRaw e.settings o)).x - rep.x).natAbs ≤ e.settings.tracking.deadband)
      && decide (((corrected e.settings (trackRaw e.settings o)).y - rep.y).natAbs ≤ e.settings.tracking.deadband)) := by
  simp [heldBy, hrep, ha, deadbandHolds, magnitude_le_natCast_iff]

/-- In ACQUIRE no reported position is held. -/
theorem heldBy_acquire (ha : t.state = .acquire) : heldBy e t o = false := by
  unfold heldBy
  split <;> simp [ha]

/-- ACQUIRE: the third strong frame enters HOVER (R50). -/
theorem strongEnd_entered (h : t.state = .acquire) (hcount : 2 ≤ t.confirmCount) : strongEnd e t o =
    afterTransition e (some o) (heldBy e t o) ((strongAcquiring e t o).entered e.settings) (.kind .enter) := by
  rw [strongEnd_acquiring h, strongTransition_entered (t := strongAcquiring e t o) h hcount]

/-- What the entry to HOVER leaves and writes (R50). -/
theorem strongEnd_enters (h : t.state = .acquire) (hcount : 2 ≤ t.confirmCount) : let r := strongEnd e t o
    r.tool.state = .hover ∧ r.draft.map (·.kind) = some .enter
      ∧ r.tool.rep = some (corrected e.settings (trackRaw e.settings o))
      ∧ r.tool.phaseZero = e.settings.profiles[t.profile].nominalZero ∧ r.tool.vel = ⟨0, 0⟩ ∧ r.tool.pressure = 0
      ∧ r.tool.strokeOpen = false ∧ r.tool.fadeCount = 0 ∧ r.draft.map (·.held) = some false
      ∧ r.tool.rawV = ⟨0, 0⟩ := by
  have hentered : ((strongAcquiring e t o).entered e.settings).state ≠ .acquire := by simp [Tool.entered]
  rw [strongEnd_entered h hcount]
  refine ⟨by simp [Tool.entered], afterTransition_kind hentered, by simp [Tool.entered, strongAcquiring],
    by simp [Tool.entered, strongAcquiring], by simp [Tool.entered], by simp [Tool.entered, reportedPressure],
    by simp [Tool.entered], by simp [Tool.entered], ?_, by simp [Tool.entered]⟩
  rw [afterTransition_draft _ _ _ _ hentered, heldBy_acquire h]
  rfl

end

/-! ## The statement -/

theorem corrected_eq {c : Settings} (hc : GridOk c) (raw : Pt) : corrected c raw =
    ⟨max 0 (min (raw.x + (mapOffset c raw).x) c.xSpan), max 0 (min (raw.y + (mapOffset c raw).y) c.ySpan)⟩ := by
  obtain ⟨hx, -, hy, -⟩ := hc
  have hxSpan : 0 ≤ c.xSpan := by simp only [Settings.xSpan, span, Config.pitch]; omega
  have hySpan : 0 ≤ c.ySpan := by simp only [Settings.ySpan, span, Config.pitch]; omega
  rw [corrected, clamp_eq_max_min hxSpan, clamp_eq_max_min hySpan]

theorem reportedPressure_eq (c : Pressure) (state : ToolState) (n : Nat) :
    reportedPressure c state n = if state = .contact then curve c n else 0 := by cases state <;> rfl

/-- Settles O52: the mark or the frame's class decides; a tool that stays takes the tilt and code steps on what carries
over, and a strong frame by the tool's state. -/
theorem toolTransitions : Obligations.ToolTransitions := by
  intro e t hv r u kind limit clamped coded uncoded leaves motion k
  refine ⟨fun hmark => ?_, fun hmark hheld => ⟨fun hnone hcount hun => ?_, fun hnone hjudged => ?_, fun o ho hweak => ?_,
    fun hacquire => ?_, fun hjudged hstays hne => ?_, fun hjudged hstays hne => ?_, fun o ho hstrong => ?_⟩⟩
  · have hr : r = departure k.tiltLimit t := toolFrameEnd_of_marked hv hmark
    clear_value r
    subst hr
    exact departure_leaves k.tiltLimit t t.missCount t.fadeCount
  · have hr : r = _ := toolFrameEnd_exempt hv hmark hheld hnone hcount hun
    clear_value r
    subst hr
    exact ⟨rfl, rfl, rfl, rfl⟩
  · have hr : r = missingEnd e t := toolFrameEnd_missing hv hmark hheld hnone hjudged
    clear_value r
    subst hr
    refine ⟨fun h => ?_, fun h => ?_⟩
    · rw [show leaves = ToolLeaves k.tiltLimit t (missingEnd e t) from rfl, missingEnd_departs h]
      exact departure_leaves k.tiltLimit t (t.missCount + 1) t.fadeCount
    · simp only [u, missingEnd_stays h]
      simp [afterTransition_noDraft, reportedPressure_eq]
  · have hr : r = weakEnd e t := toolFrameEnd_weak hv hmark hheld ho hweak
    clear_value r
    subst hr
    intro fade
    refine ⟨fun h => ?_, fun ha h => ?_⟩
    · rw [show leaves = ToolLeaves k.tiltLimit t (weakEnd e t) from rfl, weakEnd_departs h]
      exact departure_leaves k.tiltLimit t 0 (fadeCountAfter t)
    · simp only [u, weakEnd_stays ha h]
      simp [afterTransition_noDraft, reportedPressure, fade, fadeCountAfter]
  · exact toolFrameEnd_acquire hv hmark hheld hacquire
  · obtain ⟨track, held, w, mark, hr, hw, -⟩ := toolFrameEnd_stays hv hmark hheld hjudged hstays
    change r = _ at hr
    clear_value r
    subst hr
    exact hw.codes (by simpa [u] using hne)
  · obtain ⟨track, held, w, mark, hr, hw, htrack⟩ := toolFrameEnd_stays hv hmark hheld hjudged hstays
    change r = _ at hr
    clear_value r
    subst hr
    have hne' : w.state ≠ .acquire := by simpa [u] using hne
    intro strongTrack
    refine ⟨fun hnone => hw.tilt_none hne' (strongTilt_eq_none hnone), fun o ho hstrong => ?_⟩
    have hsome := strongTilt_eq_some ho hstrong
    refine ⟨afterTransition_ring hne' hsome, fun hst hx hy => hw.tilt_fresh hne' hsome (htrack.2 hst) hx hy,
      fun hedge => hw.tilt_edge hne' hsome (hedge.imp_left fun hst => ?_)⟩
    simpa using mt htrack.1 hst
  · have hr : r = strongEnd e t o := toolFrameEnd_strong hv hmark hheld ho hstrong
    clear_value r
    subst hr
    intro pos pr n gap keeps opens closes stays hovers
    obtain ⟨hmiss, hlast, hraw, hpos, hdraft⟩ := strongEnd_always e t o
    refine ⟨hmiss, hlast, hraw, hpos, fun hgrid m hm => ?_, hdraft, fun ha hc => ?_, fun ha hc => ?_, fun ha hv0 hv1 => ?_,
      fun ha => ?_, fun h => (strongEnd_hover h).1, fun h => (strongEnd_hover h).2, fun h => (strongEnd_contact h).1,
      fun h => (strongEnd_contact h).2, strongEnd_fade⟩
    · rw [hm, show u.raw = trackRaw e.settings o from hraw]
      exact corrected_eq hgrid _
    · have hend := strongEnd_confirming (e := e) (o := o) ha hc
      exact ⟨(congrArg (·.tool.state) hend).trans ha, congrArg (·.draft) hend, congrArg (·.tool.confirmCount) hend⟩
    · obtain ⟨hstate, hkind, hrep, hzero, hvel, hpressure, hopen, hfade, hheldFlag, -⟩ := strongEnd_enters (o := o) ha hc
      exact ⟨hstate, hkind, hrep, hzero, hvel, hpressure, hopen, hfade, hheldFlag⟩
    · rcases lt_or_ge t.confirmCount 2 with hc | hc
      · have hend := strongEnd_confirming (e := e) (o := o) ha hc
        exact ⟨(congrArg (·.tool.rawV) hend).trans hv0, (congrArg (·.tool.vel) hend).trans hv1⟩
      · obtain ⟨-, -, -, -, hvel, -, -, -, -, hrawV⟩ := strongEnd_enters (e := e) (o := o) ha hc
        exact ⟨hrawV, hvel⟩
    · obtain ⟨hn, hrawV, hvel, hrep, hheldFlag⟩ := strongEnd_tracked (e := e) (o := o) hv ha
      refine ⟨hn, ?_, fun old hold => ?_, fun rep hrep' => ⟨?_, ?_⟩⟩
      · rw [show u.raw = trackRaw e.settings o from hraw]
        exact hrawV
      · refine hvel.trans ?_
        simp only [strongTracked, hold]
        rfl
      · refine hrep.trans ?_
        simp only [strongTracked, heldBy_eq ha hrep', hrep']
        split <;> rfl
      · rw [hheldFlag, heldBy_eq ha hrep']

end Sys2Proof.Machine
end

section
/-! SUPPORT. The correction map: the cell around a raw position and the blend of its four nodes (R64, R66, R67). -/

namespace Sys2Proof.Machine

/-! ## The grid and the map's nodes (R2, R64) -/

theorem GridOk.xSpan_pos {c : Settings} (hc : GridOk c) : 0 < c.xSpan := by
  obtain ⟨hx, -, -, -⟩ := hc
  simp only [Settings.xSpan, span, Config.pitch]
  omega

theorem GridOk.ySpan_pos {c : Settings} (hc : GridOk c) : 0 < c.ySpan := by
  obtain ⟨-, -, hy, -⟩ := hc
  simp only [Settings.ySpan, span, Config.pitch]
  omega

theorem mapNode_eq_getElem (map : Vector MapRow 7) {i j : Nat} (hi : i < 9) (hj : j < 7) :
    mapNode map i j = map[j][i] := by
  simp [mapNode, hi, hj]

theorem nodeOk_mapNode {map : Vector MapRow 7} (h : ∀ j : Fin 7, RowOk map[j]) {i j : Nat} (hi : i < 9) (hj : j < 7) :
    NodeOk (mapNode map i j) :=
  mapNode_eq_getElem map hi hj ▸ h ⟨j, hj⟩ ⟨i, hi⟩

/-! ## The cell on one axis (R66) -/

section
variable {cells : Nat} {sp raw : Int} (hsp : 0 < sp)
include hsp

/-- The cell of a position within the span is one of the axis' cells. -/
theorem exists_cellIndex_eq (hcells : 0 < cells) (hlo : 0 ≤ raw) : ∃ i : Nat, i < cells ∧ cellIndex cells sp raw = i := by
  have hnonneg : 0 ≤ cellIndex cells sp raw := le_min (Int.ediv_nonneg (by positivity) hsp.le) (by omega)
  have hcap : cellIndex cells sp raw ≤ cells - 1 := min_le_right _ _
  obtain ⟨i, hi⟩ := Int.eq_ofNat_of_zero_le hnonneg
  exact ⟨i, by omega, hi⟩

/-- A position on the line of node `m`, the far edge excepted, lies in the cell that begins there. -/
theorem cellIndex_of_line {m : Nat} (hm : m < cells) (h : raw * cells = m * sp) : cellIndex cells sp raw = m := by
  have hquot : floorDiv (raw * cells) sp = m := by rw [floorDiv, h, Int.mul_ediv_cancel _ hsp.ne']
  rw [cellIndex, hquot]
  omega

/-- The far edge lies in the last cell. -/
theorem cellIndex_of_edge : cellIndex cells sp sp = cells - 1 := by
  have hquot : floorDiv (sp * cells) sp = cells := Int.mul_ediv_cancel_left _ hsp.ne'
  rw [cellIndex, hquot]
  omega

theorem cellRest_of_line {m : Nat} (hm : m < cells) (h : raw * cells = m * sp) : cellRest cells sp raw = 0 := by
  rw [cellRest, cellIndex_of_line hsp hm h, h, sub_self]

theorem cellRest_of_edge : cellRest cells sp sp = sp := by
  rw [cellRest, cellIndex_of_edge hsp]
  ring

theorem cellRest_nonneg : 0 ≤ cellRest cells sp raw := by
  have hle : cellIndex cells sp raw * sp ≤ raw * cells / sp * sp := mul_le_mul_of_nonneg_right (min_le_left _ _) hsp.le
  have hfloor : raw * cells / sp * sp ≤ raw * cells := Int.ediv_mul_le _ hsp.ne'
  exact sub_nonneg.2 (hle.trans hfloor)

/-- The remainder stays within the span: the floor leaves less, and the cap only acts at the far edge. -/
theorem cellRest_le (hhi : raw ≤ sp) : cellRest cells sp raw ≤ sp := by
  unfold cellRest cellIndex floorDiv
  rcases min_choice (raw * cells / sp) ((cells : Int) - 1) with h | h
  · rw [h]
    linarith [Int.lt_ediv_add_one_mul_self (raw * cells) hsp]
  · rw [h]
    linarith [mul_le_mul_of_nonneg_right hhi (Int.natCast_nonneg cells)]

end

/-! ## The blend of four nodes (R67) -/

theorem roundDiv_mono {a a' b : Int} (hb : 0 < b) (h : a ≤ a') : roundDiv a b ≤ roundDiv a' b := by
  have hquot : ∀ {n n' : Int}, n ≤ n' → (2 * n + b) / (2 * b) ≤ (2 * n' + b) / (2 * b) := fun hn =>
    Int.ediv_le_ediv (by omega) (by omega)
  unfold roundDiv
  split
  · rw [if_pos (by omega)]
    exact hquot h
  · have hneg : 0 ≤ (2 * -a + b) / (2 * b) := Int.ediv_nonneg (by omega) (by omega)
    split
    · have hpos : 0 ≤ (2 * a' + b) / (2 * b) := Int.ediv_nonneg (by omega) (by omega)
      omega
    · exact neg_le_neg (hquot (neg_le_neg h))

/-- The rounded quotient of a dividend between `lo` and `hi` divisors lies between `lo` and `hi`. -/
theorem roundDiv_mem {a b lo hi : Int} (hb : 0 < b) (hlo : lo * b ≤ a) (hhi : a ≤ hi * b) :
    lo ≤ roundDiv a b ∧ roundDiv a b ≤ hi := by
  constructor
  · calc lo = roundDiv (lo * b) b := (roundDiv_mul_self hb).symm
      _ ≤ roundDiv a b := roundDiv_mono hb hlo
  · calc roundDiv a b ≤ roundDiv (hi * b) b := roundDiv_mono hb hhi
      _ = hi := roundDiv_mul_self hb

theorem blendWeights_sum (r s xs ys : Int) :
    (xs - r) * (ys - s) + r * (ys - s) + (xs - r) * s + r * s = xs * ys := by
  ring

section
variable {d00 d10 d01 d11 r s xs ys : Int} (hr : 0 ≤ r) (hrx : r ≤ xs) (hs : 0 ≤ s) (hsy : s ≤ ys)
include hr hrx hs hsy

/-- No weight is negative, and the weights add to the whole: the weighted sum is at least `lo` wholes. -/
theorem le_blendSum {lo : Int} (h00 : lo ≤ d00) (h10 : lo ≤ d10) (h01 : lo ≤ d01) (h11 : lo ≤ d11) :
    lo * (xs * ys) ≤ blendSum d00 d10 d01 d11 r s xs ys := by
  have hr' : 0 ≤ xs - r := sub_nonneg.2 hrx
  have hs' : 0 ≤ ys - s := sub_nonneg.2 hsy
  calc lo * (xs * ys)
      = lo * (xs - r) * (ys - s) + lo * r * (ys - s) + lo * (xs - r) * s + lo * r * s := by ring
    _ ≤ blendSum d00 d10 d01 d11 r s xs ys := by unfold blendSum; gcongr

theorem blendSum_le {hi : Int} (h00 : d00 ≤ hi) (h10 : d10 ≤ hi) (h01 : d01 ≤ hi) (h11 : d11 ≤ hi) :
    blendSum d00 d10 d01 d11 r s xs ys ≤ hi * (xs * ys) := by
  have hr' : 0 ≤ xs - r := sub_nonneg.2 hrx
  have hs' : 0 ≤ ys - s := sub_nonneg.2 hsy
  calc blendSum d00 d10 d01 d11 r s xs ys
      ≤ hi * (xs - r) * (ys - s) + hi * r * (ys - s) + hi * (xs - r) * s + hi * r * s := by unfold blendSum; gcongr
    _ = hi * (xs * ys) := by ring

end

/-- On either axis the offset is the rounded blend of that axis' values at the cell's four nodes. -/
theorem mapOffset_eq {c : Settings} {raw : Pt} {i j : Nat} (hi : cellIndex 8 c.xSpan raw.x = i)
    (hj : cellIndex 6 c.ySpan raw.y = j) {D : Pt → Int} {d : Int}
    (hD : (D = Pt.x ∧ d = (mapOffset c raw).x) ∨ (D = Pt.y ∧ d = (mapOffset c raw).y)) :
    d = roundDiv (blendSum (D (mapNode c.map i j)) (D (mapNode c.map (i + 1) j)) (D (mapNode c.map i (j + 1)))
      (D (mapNode c.map (i + 1) (j + 1))) (cellRest 8 c.xSpan raw.x) (cellRest 6 c.ySpan raw.y) c.xSpan c.ySpan)
      (c.xSpan * c.ySpan) := by
  rcases hD with ⟨rfl, rfl⟩ | ⟨rfl, rfl⟩ <;> simp only [mapOffset, hi, hj, Int.toNat_natCast]

/-- Settles O55: the cell's lemmas on each axis, the rounded quotient's lemmas, and the bounds of the weighted sum. -/
theorem correctionMapBlend : Obligations.CorrectionMapBlend := by
  intro c raw hgrid hmap hx0 hx hy0 hy
  have hxs := hgrid.xSpan_pos
  have hys := hgrid.ySpan_pos
  obtain ⟨i, hi8, hi⟩ := exists_cellIndex_eq (cells := 8) hxs (by decide) hx0
  obtain ⟨j, hj6, hj⟩ := exists_cellIndex_eq (cells := 6) hys (by decide) hy0
  refine ⟨i, j, by omega, by omega, hi.symm, hj.symm, fun r s hr hs => ?_⟩
  replace hr : r = cellRest 8 c.xSpan raw.x := by rw [hr, cellRest, hi]; rfl
  replace hs : s = cellRest 6 c.ySpan raw.y := by rw [hs, cellRest, hj]; rfl
  have hr0 : 0 ≤ r := hr ▸ cellRest_nonneg hxs
  have hrx : r ≤ c.xSpan := hr ▸ cellRest_le hxs hx
  have hs0 : 0 ≤ s := hs ▸ cellRest_nonneg hys
  have hsy : s ≤ c.ySpan := hs ▸ cellRest_le hys hy
  refine ⟨hr0, hrx, hs0, hsy, fun h => ?_, fun h => ?_, fun m hm h => ?_, fun m hm h => ?_, fun D sum d hD hsum => ?_⟩
  · rw [h, cellIndex_of_edge hxs] at hi
    exact ⟨by omega, by rw [hr, h, cellRest_of_edge hxs]⟩
  · rw [h, cellIndex_of_edge hys] at hj
    exact ⟨by omega, by rw [hs, h, cellRest_of_edge hys]⟩
  · rw [cellIndex_of_line hxs hm h] at hi
    exact ⟨by omega, hr.trans (cellRest_of_line hxs hm h)⟩
  · rw [cellIndex_of_line hys hm h] at hj
    exact ⟨by omega, hs.trans (cellRest_of_line hys hm h)⟩
  · have hwhole : 0 < c.xSpan * c.ySpan := mul_pos hxs hys
    have hd : d = roundDiv sum (c.xSpan * c.ySpan) := by
      rw [mapOffset_eq hi hj hD, ← hr, ← hs, hsum, blendSum]
    have hbetween : ∀ lo hi : Int,
        (∀ a b, (a = i ∨ a = i + 1) → (b = j ∨ b = j + 1) → lo ≤ D (mapNode c.map a b) ∧ D (mapNode c.map a b) ≤ hi) →
        lo ≤ d ∧ d ≤ hi := by
      intro lo hi h
      obtain ⟨h00, h00'⟩ := h i j (.inl rfl) (.inl rfl)
      obtain ⟨h10, h10'⟩ := h (i + 1) j (.inr rfl) (.inl rfl)
      obtain ⟨h01, h01'⟩ := h i (j + 1) (.inl rfl) (.inr rfl)
      obtain ⟨h11, h11'⟩ := h (i + 1) (j + 1) (.inr rfl) (.inr rfl)
      rw [hd, hsum]
      exact roundDiv_mem hwhole (le_blendSum hr0 hrx hs0 hsy h00 h10 h01 h11)
        (blendSum_le hr0 hrx hs0 hsy h00' h10' h01' h11')
    have hnode : ∀ a b, (a = i ∨ a = i + 1) → (b = j ∨ b = j + 1) →
        -512 ≤ D (mapNode c.map a b) ∧ D (mapNode c.map a b) ≤ 511 := by
      intro a b ha hb
      obtain ⟨hxlo, hxhi, hylo, hyhi⟩ := nodeOk_mapNode hmap (i := a) (j := b) (by omega) (by omega)
      rcases hD with ⟨rfl, -⟩ | ⟨rfl, -⟩
      · exact ⟨hxlo, hxhi⟩
      · exact ⟨hylo, hyhi⟩
    obtain ⟨hbelow, habove, hhalf, hhalf'⟩ := roundDiv_spec sum _ hwhole
    rw [← hd] at hbelow habove hhalf hhalf'
    exact ⟨hd, hbelow, habove, hhalf, hhalf', fun q hq => by rw [hd, hq, roundDiv_mul_self hwhole],
      blendWeights_sum r s _ _, hbetween, hbetween _ _ hnode⟩

end Sys2Proof.Machine
end

section
/-! SUPPORT. The predicted position by the tool's state, and its clamps (R72, R73). -/

namespace Sys2Proof.Machine

/-! ## The displacement on one axis (R72) -/

theorem leadDelta_eq (v : Int) (lead framePeriod : Nat) :
    leadDelta v lead framePeriod = max (-2048) (min ((v * lead).tdiv framePeriod) 2048) :=
  clamp_eq_max_min (by decide) _

@[simp] theorem leadDelta_zero_lead (v : Int) (framePeriod : Nat) : leadDelta v 0 framePeriod = 0 := by
  simp [leadDelta_eq]

theorem leadDelta_natAbs_le (v : Int) (lead framePeriod : Nat) : (leadDelta v lead framePeriod).natAbs ≤ 2048 := by
  rw [leadDelta_eq]
  omega

/-- Bringing a moved position within the grid takes it no further from where it stood. -/
theorem natAbs_clamp_add_sub_le {hi x : Int} (hx0 : 0 ≤ x) (hx : x ≤ hi) (d : Int) :
    (clamp 0 hi (x + d) - x).natAbs ≤ d.natAbs := by
  rw [clamp_eq_max_min (hx0.trans hx)]
  omega

/-! ## The position by state (R73) -/

section
variable (c : Settings) (lead : Nat) {t : Tool}

theorem predicted_eq_none (h : t.state = .vacant ∨ t.state = .acquire) : predicted c lead t = none := by
  rcases h with h | h <;> simp [predicted, h]

theorem predicted_of_fade {rep : Pt} (h : t.state = .fade) (hrep : t.rep = some rep) : predicted c lead t = some rep := by
  simp [predicted, h, hrep]

theorem predicted_of_present {rep : Pt} (h : t.state = .hover ∨ t.state = .contact) (hrep : t.rep = some rep) :
    predicted c lead t = some ⟨clamp 0 c.xSpan (rep.x + leadDelta t.vel.x lead c.timing.framePeriod),
      clamp 0 c.ySpan (rep.y + leadDelta t.vel.y lead c.timing.framePeriod)⟩ := by
  rcases h with h | h <;> simp [predicted, h, hrep]

end

/-- Settles O60: the position by state, and on each axis the displacement and the clamp to the grid. -/
theorem predictedPosition : Obligations.PredictedPosition := by
  intro c lead t hgrid
  refine ⟨predicted_eq_none c lead, fun rep => predicted_of_fade c lead, fun rep h hrep => ?_⟩
  intro delta
  have hdelta : ∀ v, leadDelta v lead c.timing.framePeriod = delta v := fun v => leadDelta_eq v lead _
  refine ⟨_, predicted_of_present c lead h hrep, ?_, ?_, fun hx0 hx hy0 hy => ⟨?_, ?_, ?_⟩⟩
  · rw [← hdelta]
    exact clamp_eq_max_min hgrid.xSpan_pos.le _
  · rw [← hdelta]
    exact clamp_eq_max_min hgrid.ySpan_pos.le _
  · exact (natAbs_clamp_add_sub_le hx0 hx _).trans (leadDelta_natAbs_le _ _ _)
  · exact (natAbs_clamp_add_sub_le hy0 hy _).trans (leadDelta_natAbs_le _ _ _)
  · rintro rfl
    simp [clamp_of_mem hx0 hx, clamp_of_mem hy0 hy]

end Sys2Proof.Machine
end
section
/-! SUPPORT. The pressure curve: one segment, the chain of four, its knots (R80, R81). -/

namespace Sys2Proof.Machine

theorem pressureValid_iff (k : Pressure) :
    pressureValid k = true ↔ k.up < k.down ∧ k.down ≤ 8191 ∧ 0 < k.x1 ∧ k.x1 < k.x2 ∧ k.x2 < k.x3 ∧ k.x3 < 8191
      ∧ k.y1 ≤ k.y2 ∧ k.y2 ≤ k.y3 ∧ k.y3 ≤ 8191 := by
  simp [pressureValid, and_assoc]

/-! ## One segment (R81) -/

section
variable (xa ya xb yb : Nat)

@[simp] theorem segment_left : segment xa xa ya xb yb = ya := by
  simp [segment]

theorem le_segment (n : Nat) : ya ≤ segment n xa ya xb yb :=
  Nat.le_add_right _ _

theorem segment_mono : Monotone fun n => segment n xa ya xb yb := fun m n h => by
  dsimp only [segment]
  gcongr

end

section
variable {n xa ya xb yb : Nat} (hx : xa < xb)
include hx

theorem segment_right (hy : ya ≤ yb) : segment xb xa ya xb yb = yb := by
  rw [segment, Nat.mul_div_cancel_left _ (Nat.sub_pos_of_lt hx), Nat.add_sub_cancel' hy]

/-- A segment that never falls stays below the point it runs to. -/
theorem segment_le (hy : ya ≤ yb) (hn : n ≤ xb) : segment n xa ya xb yb ≤ yb :=
  (segment_mono xa ya xb yb hn).trans_eq (segment_right hx hy)

/-- Equal rise and run, on the diagonal: the value is the argument. -/
theorem segment_diagonal (hn : xa ≤ n) : segment n xa xa xb xb = n := by
  rw [segment, Nat.mul_div_cancel _ (Nat.sub_pos_of_lt hx), Nat.add_sub_cancel' hn]

end

/-! ## The segment of each argument (R81) -/

section
variable {k : Pressure} {n : Nat}

theorem curve_of_lt_x1 (h : n < k.x1) : curve k n = segment n 0 0 k.x1 k.y1 :=
  if_pos h

theorem curve_of_lt_x2 (h1 : k.x1 ≤ n) (h2 : n < k.x2) : curve k n = segment n k.x1 k.y1 k.x2 k.y2 := by
  rw [curve, if_neg h1.not_gt, if_pos h2]

theorem curve_of_lt_x3 (h1 : k.x1 ≤ n) (h2 : k.x2 ≤ n) (h3 : n < k.x3) :
    curve k n = segment n k.x2 k.y2 k.x3 k.y3 := by
  rw [curve, if_neg h1.not_gt, if_neg h2.not_gt, if_pos h3]

theorem curve_of_x3_le (h1 : k.x1 ≤ n) (h2 : k.x2 ≤ n) (h3 : k.x3 ≤ n) :
    curve k n = segment n k.x3 k.y3 8191 8191 := by
  rw [curve, if_neg h1.not_gt, if_neg h2.not_gt, if_neg h3.not_gt]
  rfl

end

/-! ## The rise of the whole chain (R81) -/

/-- `f` never falls, and never lies below `lo`. -/
def RisesFrom (lo : Nat) (f : Nat → Nat) : Prop :=
  Monotone f ∧ ∀ n, lo ≤ f n

theorem risesFrom_segment (xa ya xb yb : Nat) : RisesFrom ya fun n => segment n xa ya xb yb :=
  ⟨segment_mono xa ya xb yb, le_segment xa ya xb yb⟩

/-- Two rising pieces joined at `x` rise when the first ends no higher than the second begins. -/
theorem RisesFrom.join {f g : Nat → Nat} {x a b : Nat} (hf : RisesFrom a f) (hg : RisesFrom b g) (hab : a ≤ b)
    (hend : ∀ {n}, n ≤ x → f n ≤ b) : RisesFrom a fun n => if n < x then f n else g n := by
  obtain ⟨hfmono, hflow⟩ := hf
  obtain ⟨hgmono, hglow⟩ := hg
  refine ⟨fun m n hmn => ?_, fun n => ?_⟩
  · dsimp only
    rcases lt_or_ge m x with hm | hm
    · rw [if_pos hm]
      split
      · exact hfmono hmn
      · exact (hend hm.le).trans (hglow n)
    · rw [if_neg hm.not_gt, if_neg (hm.trans hmn).not_gt]
      exact hgmono hmn
  · dsimp only
    split
    · exact hflow n
    · exact hab.trans (hglow n)

theorem curve_mono {k : Pressure} (h : pressureValid k = true) : Monotone (curve k) := by
  obtain ⟨-, -, h1, h12, h23, -, hy12, hy23, -⟩ := (pressureValid_iff k).1 h
  have from2 := (risesFrom_segment k.x2 k.y2 k.x3 k.y3).join (risesFrom_segment k.x3 k.y3 8191 8191) hy23
    (segment_le h23 hy23)
  have from1 := (risesFrom_segment k.x1 k.y1 k.x2 k.y2).join from2 hy12 (segment_le h12 hy12)
  have from0 := (risesFrom_segment 0 0 k.x1 k.y1).join from1 (Nat.zero_le _) (segment_le h1 (Nat.zero_le _))
  exact from0.1

/-! ## The default curve (R80, R81) -/

/-- With every knot on the diagonal, as by default, the curve is the diagonal; the thresholds play no part. -/
theorem curve_diagonal {k : Pressure} (hx1 : 0 < k.x1) (hx12 : k.x1 < k.x2) (hx23 : k.x2 < k.x3) (hx3 : k.x3 < 8191)
    (h1 : k.y1 = k.x1) (h2 : k.y2 = k.x2) (h3 : k.y3 = k.x3) (n : Nat) : curve k n = n := by
  rcases lt_or_ge n k.x1 with hn1 | hn1
  · rw [curve_of_lt_x1 hn1, h1, segment_diagonal hx1 (Nat.zero_le n)]
  rcases lt_or_ge n k.x2 with hn2 | hn2
  · rw [curve_of_lt_x2 hn1 hn2, h1, h2, segment_diagonal hx12 hn1]
  rcases lt_or_ge n k.x3 with hn3 | hn3
  · rw [curve_of_lt_x3 hn1 hn2 hn3, h2, h3, segment_diagonal hx23 hn2]
  · rw [curve_of_x3_le hn1 hn2 hn3, h3, segment_diagonal hx3 hn3]

/-- Settles O56: each argument's segment, the ends of a segment at the knots, and the chain's rise. -/
theorem pressureCurve : Obligations.PressureCurve := by
  intro k n hk hn
  obtain ⟨-, -, h1, h12, h23, h3, hy12, hy23, hy3⟩ := (pressureValid_iff k).1 hk
  refine ⟨fun hlt => ?_, fun hle hlt => ?_, fun hle hlt => ?_, fun hle => ?_, ?_, ?_, ?_, ?_, ?_,
    fun m hmn => curve_mono hk hmn, fun d u => ?_⟩
  · rw [curve_of_lt_x1 hlt]
    exact ⟨by simp [segment], segment_le h1 (Nat.zero_le _) hlt.le⟩
  · rw [curve_of_lt_x2 hle hlt]
    exact ⟨rfl, le_segment .., segment_le h12 hy12 hlt.le⟩
  · rw [curve_of_lt_x3 (by omega) hle hlt]
    exact ⟨rfl, le_segment .., segment_le h23 hy23 hlt.le⟩
  · rw [curve_of_x3_le (by omega) (by omega) hle]
    exact ⟨rfl, le_segment .., segment_le h3 hy3 hn⟩
  · rw [curve_of_lt_x1 h1, segment_left]
  · rw [curve_of_lt_x2 le_rfl h12, segment_left]
  · rw [curve_of_lt_x3 h12.le le_rfl h23, segment_left]
  · rw [curve_of_x3_le (by omega) h23.le le_rfl, segment_left]
  · rw [curve_of_x3_le (by omega) (by omega) h3.le, segment_right h3 hy3]
  · refine curve_diagonal ?_ ?_ ?_ ?_ rfl rfl rfl n <;> norm_num

end Sys2Proof.Machine
end
section
/-! SUPPORT. The signed phase offset and the normalised tip value (R75, R76). -/

namespace Sys2Proof.Machine

/-! ## The signed offset (R75) -/

/-- One turn of the phase added or taken away brings the difference into −512..511. -/
theorem signedOffset_range {p z : Nat} (hp : p ≤ 1023) (hz : z ≤ 1023) :
    -512 ≤ signedOffset p z ∧ signedOffset p z ≤ 511 := by
  unfold signedOffset
  dsimp only
  split
  · omega
  · split <;> omega

theorem exists_sub_eq_signedOffset_add (p z : Nat) : ∃ m : Int, (p : Int) - z = signedOffset p z + 1024 * m := by
  unfold signedOffset
  dsimp only
  split
  · exact ⟨1, by ring⟩
  · split
    · exact ⟨-1, by ring⟩
    · exact ⟨0, by ring⟩

/-! ## The normalised tip value (R76) -/

section
variable {pr : Int} {phaseSpan : Nat}

theorem normalised_of_nonpos (hspan : 0 < phaseSpan) (h : pr ≤ 0) : normalised pr phaseSpan = 0 := by
  have hclamp : (clamp 0 phaseSpan pr).toNat = 0 := by
    rw [clamp_eq_max_min (by omega)]
    omega
  rw [normalised, hclamp]
  exact Nat.div_eq_of_lt (by omega)

theorem normalised_of_mem (h0 : 0 ≤ pr) (h : pr ≤ phaseSpan) :
    normalised pr phaseSpan = (pr.toNat * 8191 + phaseSpan / 2) / phaseSpan := by
  rw [normalised, clamp_of_mem h0 h]
  rfl

theorem normalised_of_span_le (hspan : 0 < phaseSpan) (h : phaseSpan ≤ pr) : normalised pr phaseSpan = 8191 := by
  have hclamp : (clamp 0 phaseSpan pr).toNat = phaseSpan := by
    rw [clamp_eq_max_min (by omega)]
    omega
  rw [normalised, hclamp, Nat.mul_add_div hspan, Nat.div_eq_of_lt (by omega)]
  rfl

end

theorem normalised_mono (phaseSpan : Nat) : Monotone fun pr => normalised pr phaseSpan := fun pr pr' h => by
  have hclamp : clamp 0 phaseSpan pr ≤ clamp 0 phaseSpan pr' := by
    rw [clamp_eq_max_min (by omega), clamp_eq_max_min (by omega)]
    omega
  have hpressed := Int.toNat_le_toNat hclamp
  dsimp only [normalised]
  gcongr

theorem normalised_le (pr : Int) {phaseSpan : Nat} (hspan : 0 < phaseSpan) : normalised pr phaseSpan ≤ 8191 :=
  calc normalised pr phaseSpan
      ≤ normalised (max pr phaseSpan) phaseSpan := normalised_mono phaseSpan (le_max_left _ _)
    _ = 8191 := normalised_of_span_le hspan (le_max_right _ _)

/-- A span beyond the greatest offset, 511, leaves the full scale out of reach. -/
theorem normalised_lt {pr : Int} {phaseSpan : Nat} (hspan : 511 < phaseSpan) (h : pr ≤ 511) :
    normalised pr phaseSpan < 8191 :=
  calc normalised pr phaseSpan
      ≤ normalised 511 phaseSpan := normalised_mono phaseSpan h
    _ = (511 * 8191 + phaseSpan / 2) / phaseSpan := normalised_of_mem (by omega) (by omega)
    _ < 8191 := (Nat.div_lt_iff_lt_mul (by omega)).2 (by omega)

/-- Settles O57: the offset's range and turn, and the tip value below, within, beyond and far below the span. -/
theorem offsetAndNormalisation : Obligations.OffsetAndNormalisation := by
  refine ⟨fun p z hp hz => ?_, fun pr phaseSpan hspan _ => ?_⟩
  · obtain ⟨hlow, hhigh⟩ := signedOffset_range hp hz
    exact ⟨hlow, hhigh, exists_sub_eq_signedOffset_add p z⟩
  · have hpos : 0 < phaseSpan := by omega
    refine ⟨normalised_of_nonpos hpos, fun h0 h => ?_, normalised_of_span_le hpos, normalised_le pr hpos,
      fun pr' h => normalised_mono phaseSpan h, normalised_lt⟩
    rw [normalised_of_mem h0 h]
    push_cast
    rw [Int.toNat_of_nonneg h0]

end Sys2Proof.Machine
end
section
/-! SUPPORT. The angle of a lean: the scaled sine, the arcsine table and its interpolation, the sign (R84, R85). -/

namespace Sys2Proof.Machine

/-! ## The scaled sine (R84) -/

/-- The magnitude of q: truncation toward zero and the clamp act alike on both signs. -/
theorem natAbs_leanSine (d : Int) (ringHeight : Nat) :
    (leanSine d ringHeight).natAbs = min (d.natAbs * 256 / ringHeight) 256 := by
  have hquot : (truncDiv (d * 256) ringHeight).natAbs = d.natAbs * 256 / ringHeight := by
    rw [truncDiv, Int.natAbs_tdiv, Int.natAbs_mul]
    rfl
  rw [leanSine, clamp_eq_max_min (by decide)]
  omega

theorem natAbs_leanSine_le (d : Int) (ringHeight : Nat) : (leanSine d ringHeight).natAbs ≤ 256 :=
  natAbs_leanSine d ringHeight ▸ min_le_right _ _

theorem natAbs_leanSine_mono {d d' : Int} (ringHeight : Nat) (h : d.natAbs ≤ d'.natAbs) :
    (leanSine d ringHeight).natAbs ≤ (leanSine d' ringHeight).natAbs := by
  rw [natAbs_leanSine, natAbs_leanSine]
  gcongr

section
variable {d : Int} {ringHeight : Nat} (hpos : 0 < ringHeight)
include hpos

theorem natAbs_leanSine_of_full (h : ringHeight ≤ d.natAbs) : (leanSine d ringHeight).natAbs = 256 := by
  rw [natAbs_leanSine, min_eq_right]
  exact (Nat.le_div_iff_mul_le hpos).2 (by omega)

theorem natAbs_leanSine_lt (h : d.natAbs < ringHeight) : (leanSine d ringHeight).natAbs < 256 := by
  rw [natAbs_leanSine]
  exact min_lt_of_left_lt ((Nat.div_lt_iff_lt_mul hpos).2 (by omega))

/-- Short of a full lean the clamp does not act, and q is the quotient itself. -/
theorem natAbs_leanSine_of_lt (h : d.natAbs < ringHeight) :
    (leanSine d ringHeight).natAbs = 256 * d.natAbs / ringHeight := by
  have hlt := natAbs_leanSine_lt hpos h
  rw [natAbs_leanSine] at hlt ⊢
  rw [mul_comm 256]
  omega

end

/-! ## The table and its interpolation (R85) -/

/-- The table rises from entry to entry. -/
theorem arcsine_mono {i j : Nat} (hij : i ≤ j) (hj : j ≤ 32) : arcsine.getD i 0 ≤ arcsine.getD j 0 := by
  have hstep : ∀ k : Fin 32, arcsine.getD k 0 ≤ arcsine.getD (k + 1) 0 := by decide
  induction j, hij using Nat.le_induction with
  | base => rfl
  | succ j _ ih => exact (ih (by omega)).trans (hstep ⟨j, by omega⟩)

theorem leanMagnitude_of_lt {q : Nat} (h : q < 256) :
    leanMagnitude q = arcsine.getD (q / 8) 0 + (arcsine.getD (q / 8 + 1) 0 - arcsine.getD (q / 8) 0) * (q % 8 : Nat) / 8 :=
  if_pos (by omega)

@[simp] theorem leanMagnitude_zero : leanMagnitude 0 = 0 := rfl

theorem leanMagnitude_full : leanMagnitude 256 = 900 := rfl

/-- Below a full lean the magnitude lies between the two entries it is interpolated from. -/
theorem leanMagnitude_mem {q : Nat} (h : q < 256) :
    arcsine.getD (q / 8) 0 ≤ leanMagnitude q ∧ leanMagnitude q ≤ arcsine.getD (q / 8 + 1) 0 := by
  have hrise : 0 ≤ arcsine.getD (q / 8 + 1) 0 - arcsine.getD (q / 8) 0 :=
    sub_nonneg.2 (arcsine_mono (Nat.le_succ _) (by omega))
  rw [leanMagnitude_of_lt h]
  constructor
  · exact le_add_of_nonneg_right (Int.ediv_nonneg (mul_nonneg hrise (Int.natCast_nonneg _)) (by decide))
  · refine add_le_of_le_sub_left (Int.ediv_le_of_le_mul (by decide) (mul_le_mul_of_nonneg_left ?_ hrise))
    omega

/-- Within one interval the interpolation rises; from one interval to a later one the table does. -/
theorem leanMagnitude_mono {q q' : Nat} (h : q ≤ q') (h' : q' ≤ 256) : leanMagnitude q ≤ leanMagnitude q' := by
  rcases h'.eq_or_lt with rfl | hlt'
  · rcases h.eq_or_lt with rfl | hlt
    · rfl
    · exact (leanMagnitude_mem hlt).2.trans (arcsine_mono (by omega) le_rfl)
  have hlt : q < 256 := h.trans_lt hlt'
  rcases (Nat.div_le_div_right (c := 8) h).eq_or_lt with hsame | hlater
  · have hrise : 0 ≤ arcsine.getD (q' / 8 + 1) 0 - arcsine.getD (q' / 8) 0 :=
      sub_nonneg.2 (arcsine_mono (Nat.le_succ _) (by omega))
    rw [leanMagnitude_of_lt hlt, leanMagnitude_of_lt hlt', hsame]
    exact add_le_add le_rfl (Int.ediv_le_ediv (by decide) (mul_le_mul_of_nonneg_left (by omega) hrise))
  · calc leanMagnitude q
        ≤ arcsine.getD (q / 8 + 1) 0 := (leanMagnitude_mem hlt).2
      _ ≤ arcsine.getD (q' / 8) 0 := arcsine_mono hlater (by omega)
      _ ≤ leanMagnitude q' := (leanMagnitude_mem hlt').1

theorem leanMagnitude_nonneg {q : Nat} (h : q ≤ 256) : 0 ≤ leanMagnitude q :=
  leanMagnitude_mono (Nat.zero_le q) h

/-! ## The sign (R85) -/

section
variable {d : Int} (ringHeight : Nat)

theorem leanAngle_of_nonneg (h : 0 ≤ d) : leanAngle d ringHeight = leanMagnitude (leanSine d ringHeight).natAbs :=
  if_neg h.not_gt

theorem leanAngle_of_nonpos (h : d ≤ 0) : leanAngle d ringHeight = -leanMagnitude (leanSine d ringHeight).natAbs := by
  rcases h.eq_or_lt with rfl | hneg
  · simp [leanAngle, natAbs_leanSine]
  · exact if_pos hneg

end

theorem leanAngle_neg (d : Int) (ringHeight : Nat) : leanAngle (-d) ringHeight = -leanAngle d ringHeight := by
  have hsine : (leanSine (-d) ringHeight).natAbs = (leanSine d ringHeight).natAbs := by
    rw [natAbs_leanSine, natAbs_leanSine, Int.natAbs_neg]
  rcases le_total 0 d with h | h
  · rw [leanAngle_of_nonneg _ h, leanAngle_of_nonpos _ (by omega), hsine]
  · rw [leanAngle_of_nonpos _ h, leanAngle_of_nonneg _ (by omega), hsine, neg_neg]

theorem leanAngle_nonneg {d : Int} (ringHeight : Nat) (h : 0 ≤ d) : 0 ≤ leanAngle d ringHeight :=
  leanAngle_of_nonneg ringHeight h ▸ leanMagnitude_nonneg (natAbs_leanSine_le d ringHeight)

theorem leanAngle_nonpos {d : Int} (ringHeight : Nat) (h : d ≤ 0) : leanAngle d ringHeight ≤ 0 := by
  have hneg := leanAngle_nonneg (d := -d) ringHeight (by omega)
  rw [leanAngle_neg] at hneg
  omega

theorem natAbs_leanAngle (d : Int) (ringHeight : Nat) :
    ((leanAngle d ringHeight).natAbs : Int) = leanMagnitude (leanSine d ringHeight).natAbs := by
  have hnonneg := leanMagnitude_nonneg (natAbs_leanSine_le d ringHeight)
  rcases le_total 0 d with h | h
  · rw [leanAngle_of_nonneg _ h]
    omega
  · rw [leanAngle_of_nonpos _ h]
    omega

/-- Of two leans to one side the one with the larger displacement has the larger angle. -/
theorem leanAngle_le_of_nonneg {d d' : Int} (ringHeight : Nat) (h0 : 0 ≤ d) (h : d ≤ d') :
    leanAngle d ringHeight ≤ leanAngle d' ringHeight := by
  rw [leanAngle_of_nonneg _ h0, leanAngle_of_nonneg _ (h0.trans h)]
  exact leanMagnitude_mono (natAbs_leanSine_mono ringHeight (by omega)) (natAbs_leanSine_le d' ringHeight)

theorem leanAngle_mono (ringHeight : Nat) : Monotone fun d => leanAngle d ringHeight := fun d d' h => by
  rcases le_total 0 d with h0 | h0
  · exact leanAngle_le_of_nonneg ringHeight h0 h
  rcases le_total 0 d' with h0' | h0'
  · exact (leanAngle_nonpos ringHeight h0).trans (leanAngle_nonneg ringHeight h0')
  · have hneg := leanAngle_le_of_nonneg (d := -d') (d' := -d) ringHeight (by omega) (by omega)
    rw [leanAngle_neg, leanAngle_neg] at hneg
    exact neg_le_neg_iff.1 hneg

/-- Settles O58: the scaled sine, the magnitude between two entries of the table, and the angle's sign and rise. -/
theorem leanAngle_spec : Obligations.LeanAngle := by
  intro d h hmin _ q a
  have hpos : 0 < h := by omega
  have hmag : (a.natAbs : Int) = leanMagnitude q := natAbs_leanAngle d h
  refine ⟨natAbs_leanSine_le d h, natAbs_leanSine_of_full hpos, fun hlt => ?_, fun hq lo hi hlo hhi => ?_, fun hq => ?_,
    fun hq => ?_, leanAngle_nonneg h, leanAngle_nonpos h, leanAngle_neg d h, fun d' hd => leanAngle_mono h hd⟩
  · have hquot : q = 256 * d.natAbs / h := natAbs_leanSine_of_lt hpos hlt
    exact ⟨(Nat.le_div_iff_mul_le hpos).1 hquot.le, (Nat.div_lt_iff_lt_mul hpos).1 (Nat.lt_succ_of_le hquot.ge),
      natAbs_leanSine_lt hpos hlt⟩
  · replace hlo : arcsine.getD (q / 8) 0 = lo := by rw [List.getD_eq_getElem?_getD, hlo, Option.getD_some]
    replace hhi : arcsine.getD (q / 8 + 1) 0 = hi := by rw [List.getD_eq_getElem?_getD, hhi, Option.getD_some]
    obtain ⟨hge, hle⟩ := leanMagnitude_mem hq
    rw [hmag, ← hlo, ← hhi]
    exact ⟨leanMagnitude_of_lt hq, hge, hle⟩
  · rw [hq, leanMagnitude_full] at hmag
    exact_mod_cast hmag
  · rw [hq, leanMagnitude_zero] at hmag
    exact Int.natAbs_eq_zero.1 (by exact_mod_cast hmag)

end Sys2Proof.Machine
end

section
/-! SUPPORT. The ports' own items through every command (R94, R95, R107, R131, R133, R181). -/

namespace Sys2Proof.Machine

/-! ## A port's own items -/

/-- The invariant reads neither the cursor, the view, the task slot, the answer store nor the bytes driven. -/
theorem PortOk.unread {ps : PortState} (h : PortOk ps) (cursor : BitVec 16) (view : View) (slot : TaskSlot) (store : Store)
    (sent : List Byte) : PortOk { ps with cursor, view, slot, store, sent } :=
  ⟨h.watermark, h.masked, h.maskEvents, h.events, h.lists, h.tick⟩

/-- A Read Attention takes from the lists and clears the events (R95, R132). -/
theorem PortOk.drained {ps : PortState} (h : PortOk ps) : PortOk ps.drained := by
  obtain ⟨hlist0, hlist1⟩ := h.lists
  refine ⟨h.watermark, h.masked, h.maskEvents, defaultPort_ok.events, ?_, h.tick⟩
  simp only [PortState.drained, List.length_tail]
  omega

/-- A mask taken enables Restarted and names events alone (R131). -/
theorem maskOf_ok {m : Half} {mask : BitVec 16} (h : maskOf m = some mask) :
    Event.restarted.isIn mask = true ∧ mask.toNat < 16384 := by
  unfold maskOf at h
  split at h <;> cases h
  next hm =>
    refine ⟨by simp [Event.isIn, Event.bit], ?_⟩
    rw [BitVec.toNat_or]
    exact Nat.or_lt_two_pow (n := 14) hm (by decide)

theorem PortOk.setMask {ps : PortState} (h : PortOk ps) {m : Half} {mask : BitVec 16} (hmask : maskOf m = some mask) :
    PortOk { ps with mask } :=
  ⟨h.watermark, (maskOf_ok hmask).1, (maskOf_ok hmask).2, h.events, h.lists, h.tick⟩

/-- A tick point OFF withdraws the pending tick (R133). -/
theorem PortOk.setTick {ps : PortState} (h : PortOk ps) (point : TickPoint) :
    PortOk { ps with tickPoint := point, tickPending := ps.tickPending && point != .off } :=
  ⟨h.watermark, h.masked, h.maskEvents, h.events, h.lists, fun hoff => by simp_all⟩

theorem PortOk.ackTick {ps : PortState} (h : PortOk ps) : PortOk { ps with tickPending := false } :=
  ⟨h.watermark, h.masked, h.maskEvents, h.events, h.lists, fun _ => rfl⟩

theorem PortOk.setWatermark {ps : PortState} (h : PortOk ps) (value : Half) :
    PortOk { ps with watermark := watermarkOf value } :=
  ⟨clampNat_range (by decide) _, h.masked, h.maskEvents, h.events, h.lists, h.tick⟩

theorem PortOk.resetTo (ps : PortState) (c : Settings) (nextSeq : BitVec 16) : PortOk (ps.resetTo c nextSeq) :=
  ⟨defaultPort_ok.watermark, defaultPort_ok.masked, defaultPort_ok.maskEvents, defaultPort_ok.events, defaultPort_ok.lists,
    fun _ => rfl⟩

/-! ## Time and restarts -/

theorem PortsOk.elapse {s : State} (hs : PortsOk s) (d : Nat) : PortsOk (s.elapse d) := hs.eq rfl rfl

theorem PortsOk.drivesZero {s : State} (hs : PortsOk s) (p : Port) : PortsOk (s.drivesZero p) :=
  hs.setPort ((hs p).unread ..)

theorem PortsOk.restartWarm {s : State} (hs : PortsOk s) : PortsOk s.restartWarm
  | .s => (hs .s).restart
  | .d => (hs .d).restart

theorem PortsOk.restartCold (s : State) : PortsOk s.restartCold
  | .s => PortOk.cold s.portS
  | .d => PortOk.cold s.portD

/-! ## The requests on a port's own items -/

/-- A command that reaches its own port alone keeps that port's items in their ranges. -/
theorem PortsOk.execOwnPort {c : Instr} {p : Port} {s t : State} (hs : PortsOk s) (hp : ownPort c = some p)
    (h : exec c s = .next t) : PortsOk t := by
  cases c <;> simp only [ownPort, Option.some.injEq, reduceCtorEq] at hp <;> subst hp
  case fetchResponse =>
    simp only [exec, execFetchResponse] at h
    split at h <;> cases h
    · exact hs.setPort ((hs _).unread ..)
    · exact hs.drivesZero _
  case answerReady =>
    cases h
    exact hs.setPort ((hs _).unread ..)
  all_goals
    simp only [exec, execReadSamples, execSkipToNewest, execReadLatest, execReadStatus, execReadAttention,
      execSetAttentionMask, execSetTick, execAckTick, execSetWatermark, execReadTaskResult, execReadPlan, execReadMapRow,
      execReadSettings, execUnknownCode, execBadLength] at h
    refine request_keeps h (hs.drivesZero _) ?_
  case readAttention => exact (hs.setPort (hs _).drained).answer _ _ _ _
  case ackTick => exact (hs.setPort (hs _).ackTick).answer _ _ _ _
  case setWatermark => exact (hs.setPort ((hs _).setWatermark _)).answer _ _ _ _
  case setAttentionMask =>
    split
    · exact hs.answer _ _ _ _
    · next mask hmask => exact (hs.setPort ((hs _).setMask hmask)).answer _ _ _ _
  case setTick =>
    split
    · exact hs.answer _ _ _ _
    · exact (hs.setPort ((hs _).setTick _)).answer _ _ _ _
  case skipToNewest | readTaskResult => exact (hs.setPort ((hs _).unread ..)).answer _ _ _ _
  case readSamples =>
    split
    · exact hs.answer _ _ _ _
    · exact (hs.setPort ((hs _).unread ..)).answer _ _ _ _
  case readLatest | readStatus | readSettings | unknownCode | badLength => exact hs.answer _ _ _ _
  case readMapRow => split <;> exact hs.answer _ _ _ _
  case readPlan =>
    repeat' split
    all_goals exact hs.answer _ _ _ _

theorem PortsOk.execSetView {p : Port} {a : ViewArgs} {s t : State} (hs : PortsOk s) (h : execSetView p a s = .next t) :
    PortsOk t := by
  refine request_keeps h (hs.drivesZero p) ?_
  split
  · exact hs.answer _ _ _ _
  · exact (hs.setPort ((hs p).unread ..)).answer _ _ _ _

/-! ## The requests that reach more than their port -/

theorem PortsOk.execAbortTask {p : Port} {s t : State} (hs : PortsOk s) (h : execAbortTask p s = .next t) : PortsOk t := by
  refine request_keeps h (hs.drivesZero p) ?_
  split
  · exact ((hs.undoTask p _).completeTask _ _ _).answer _ _ _ _
  all_goals exact hs.answer _ _ _ _

theorem PortsOk.execSetPlan {p : Port} {plan : Plan} {s t : State} (hs : PortsOk s)
    (h : execSetPlan p plan s = .next t) : PortsOk t := by
  refine request_keeps h (hs.drivesZero p) ?_
  split
  · exact hs.answer _ _ _ _
  · split
    · refine PortsOk.answer (PortsOk.startTask ?_ p .setPlan) _ _ _ _
      exact hs.supersede.eq rfl rfl
    · exact hs.answer _ _ _ _

theorem PortsOk.execSetGrid {p : Port} {x y : Byte} {s t : State} (hs : PortsOk s) (h : execSetGrid p x y s = .next t) :
    PortsOk t := by
  refine request_keeps h (hs.drivesZero p) ?_
  split
  · exact hs.answer _ _ _ _
  · split
    · exact (hs.applyGrid _ _ _).answer _ _ _ _
    · exact hs.answer _ _ _ _

theorem PortsOk.execHoldScan {p : Port} {delay : Byte} {s t : State} (hs : PortsOk s)
    (h : execHoldScan p delay s = .next t) : PortsOk t := by
  refine request_keeps h (hs.drivesZero p) ?_
  split
  · exact hs.answer _ _ _ _
  · split
    · exact (hs.cancelWaiting.beginHold _ _).answer _ _ _ _
    · exact (hs.cancelActive.beginHold _ _).answer _ _ _ _
    all_goals exact hs.answer _ _ _ _

theorem PortsOk.execResumeScan {p : Port} {s t : State} (hs : PortsOk s) (h : execResumeScan p s = .next t) :
    PortsOk t := by
  refine request_keeps h (hs.drivesZero p) ?_
  split
  · split
    · exact hs.endHeld.answer _ _ _ _
    · exact hs.answer _ _ _ _
  · exact hs.answer _ _ _ _

theorem PortsOk.execCoilSurvey {p : Port} {kind profile : Byte} {s t : State} (hs : PortsOk s)
    (h : execCoilSurvey p kind profile s = .next t) : PortsOk t := by
  refine request_keeps h (hs.drivesZero p) ?_
  repeat' split
  case h_2.isFalse.isFalse.isFalse =>
    refine PortsOk.answer (PortsOk.startTask ?_ p .coilSurvey) _ _ _ _
    exact hs.eq rfl rfl
  all_goals exact hs.answer _ _ _ _

theorem PortsOk.execReadCapture {p : Port} {offset count unlock : Byte} {s t : State} (hs : PortsOk s)
    (h : execReadCapture p offset count unlock s = .next t) : PortsOk t := by
  have hempty : PortsOk s.emptyCapture := hs.eq rfl rfl
  refine request_keeps h (hs.drivesZero p) ?_
  repeat' split
  case h_2.isFalse.isFalse.isTrue => exact hempty.answer _ _ _ _
  all_goals exact hs.answer _ _ _ _

theorem PortsOk.execPortReset {p : Port} {s t : State} (hs : PortsOk s) (h : execPortReset p s = .next t) : PortsOk t := by
  refine request_keeps h (hs.drivesZero p) ?_
  dsimp only
  rw [resetCapture_portReset]
  have hreset : PortsOk (s.portReset p) := by
    refine PortsOk.setPort ?_ (PortOk.resetTo ..)
    exact hs.eq rfl rfl
  exact (hreset.resetMode p).answer _ _ _ _

/-! ## Every command -/

/-- Every command keeps both ports' own items in their ranges. -/
theorem PortsOk.exec {c : Instr} {s t : State} (hs : PortsOk s) (h : exec c s = .next t) : PortsOk t := by
  cases hp : ownPort c with
  | some p => exact hs.execOwnPort hp h
  | none =>
    cases hq : settingsPort c with
    | some p =>
      exact exec_settingsPort_keeps hq h (hs.drivesZero p) (fun _ _ => hs.answer _ _ _ _) (fun _ _ _ => hs.changeSetting _ _ _ _)
    | none =>
    cases c <;> simp only [ownPort, settingsPort, reduceCtorEq] at hp hq
    case setView => exact hs.execSetView h
    case abortTask => exact hs.execAbortTask h
    case setPlan => exact hs.execSetPlan h
    case setGrid => exact hs.execSetGrid h
    case holdScan => exact hs.execHoldScan h
    case resumeScan => exact hs.execResumeScan h
    case coilSurvey => exact hs.execCoilSurvey h
    case readCapture => exact hs.execReadCapture h
    case portReset => exact hs.execPortReset h
    case coldRestart p =>
      exact request_keeps (show execColdRestart p s = .next t from h) (hs.drivesZero p)
        ((PortsOk.restartCold s).drivesZero p)
    case warmRestart p =>
      exact request_keeps (show execWarmRestart p s = .next t from h) (hs.drivesZero p) (hs.restartWarm.drivesZero p)
    case scheduledFrameStart =>
      rcases execScheduledFrameStart_next h with rfl | ⟨-, rfl⟩
      · exact hs
      · exact (hs.elapse _).frameStart
    case midPoint =>
      rcases execMidPoint_next h with rfl | ⟨u, rfl, rfl⟩
      · exact hs
      · refine PortsOk.tickBoth ?_ (by decide)
        exact hs.eq rfl rfl
    case dsync =>
      rcases execDsync_next h with rfl | ⟨-, -, rfl⟩
      · exact hs
      · exact hs.dsyncPulse
    case syncTimerExpiry =>
      rcases execSyncTimerExpiry_next h with rfl | ⟨d, -, rfl⟩
      · exact hs
      · exact (hs.elapse _).syncExpire
    case slotBegin =>
      rcases execSlotBegin_next h with rfl | ⟨k, -, rfl⟩
      · exact hs
      · exact hs.beginSlot k
    case driveBusyFall =>
      rcases execDriveBusyFall_next h with rfl | ⟨k, j, -, rfl⟩
      all_goals exact hs.eq rfl rfl
    case driveBusyRise =>
      have hhigh : PortsOk (s.withBusy true) := hs.eq rfl rfl
      rcases execDriveBusyRise_next h with rfl | ⟨k, -, rfl⟩
      · exact hhigh
      · exact hhigh.endSlot k .cut
    case slipExpiry =>
      rcases execSlipExpiry_next h with rfl | ⟨k, d, -, rfl⟩
      · exact hs
      · exact (hs.elapse _).endSlot k .skipped
    case excitationEnd =>
      rcases execExcitationEnd_next h with rfl | ⟨u, run, d, -, rfl, rfl⟩
      · exact hs
      · exact hs.eq rfl rfl
    case listenEnd r =>
      rcases execListenEnd_next h with rfl | ⟨k, j, d, -, rfl⟩
      · exact hs
      · exact PortsOk.endSlot (hs.eq (by simp) (by simp)) k .done
    case autoResumeExpiry =>
      rcases execAutoResumeExpiry_next h with rfl | ⟨d, n, -, rfl⟩
      · exact hs
      · exact (hs.elapse _).endHeld
    case startingEnd =>
      rcases execStartingEnd_next h with rfl | ⟨d, -, rfl⟩
      · exact hs
      · refine PortsOk.frameStart (PortsOk.raiseBoth ?_ (by decide))
        exact hs.eq rfl rfl
    case keySample =>
      rcases execKeySample_next h with rfl | ⟨u, keys, changed, rfl, rfl⟩
      · exact hs
      · refine PortsOk.raiseBothIf ?_ (by decide) changed
        exact hs.eq rfl rfl
    case keyRestartHoldExpiry =>
      rcases execKeyRestartHoldExpiry_next h with rfl | ⟨u, d, rfl, rfl⟩
      · exact hs
      · exact PortsOk.restartWarm (hs.eq rfl rfl)
    case powerOn | resetNLow | resetNRise | powerFail =>
      rcases exec_power_next (by simp) h with rfl | ⟨u, rfl | rfl⟩
      · exact hs.eq rfl rfl
      all_goals exact (PortsOk.restartCold u).eq rfl rfl

/-- Settles O10: each command keeps `PortsOk`, case by case, and so does the passing of time. -/
theorem stepKeepsPorts : Obligations.StepKeepsPorts := fun _ _ =>
  step_keeps (fun _ hs => hs.elapse 1) (fun _ _ hs => hs.eq rfl rfl) (fun _ _ _ => PortsOk.exec)

end Sys2Proof.Machine
end

section
/-! SUPPORT. The validity of a symbol, the code debounce and the identity assembly (R90, R92, R93, R97, R98). -/

namespace Sys2Proof.Machine

/-! ## Validity (R90) -/

/-- The parity of a status code is good when the number of its set bits is even. -/
theorem goodParity_iff (c : BitVec 4) : goodParity c = true ↔
    ((c.getLsbD 0).toNat + (c.getLsbD 1).toNat + (c.getLsbD 2).toNat + (c.getLsbD 3).toNat) % 2 = 0 := by
  revert c
  decide

theorem validSymbol_some (hold : Nat) (o : CodeObs) : validSymbol hold (some o) =
    if hold ≤ o.amplitude ∧ goodParity o.symbol.code = true then some o.symbol else none := rfl

/-! ## The debounce (R92, R93) -/

/-- A code is accepted at the second of two equal valid codes (R92). -/
theorem acceptedBy_eq_some {t : Tool} {v : Option Symbol} {c : BitVec 4} :
    acceptedBy t v = some c ↔ (∃ y, v = some y ∧ y.code = c) ∧ t.codeCandidate = some c := by
  cases v with
  | none => simp [acceptedBy]
  | some y =>
    simp only [acceptedBy, Option.some.injEq, exists_eq_left']
    split
    · simp_all
    · simp only [reduceCtorEq, false_iff]
      rintro ⟨rfl, hc⟩
      contradiction

/-- An acceptance is a change when the accepted code was another or absent (R93). -/
theorem codeChangeOf_eq_some {t : Tool} {v : Option Symbol} {c : BitVec 4} :
    codeChangeOf t v = some c ↔ acceptedBy t v = some c ∧ t.acceptedCode ≠ some c := by
  unfold codeChangeOf
  split
  · next c' hc =>
    split
    · simp_all
    · next hne =>
      simp only [hc, Option.some.injEq]
      exact ⟨by rintro rfl; exact ⟨rfl, hne⟩, And.left⟩
  · simp_all

/-! ## The value of a whole cycle (R97) -/

theorem testBit_foldr_bits (l : List Bool) (i : Nat) :
    (l.foldr (fun (b : Bool) acc => 2 * acc + b.toNat) 0).testBit i = l.getD i false := by
  induction l generalizing i with
  | nil => simp
  | cons b l ih =>
    rw [List.foldr_cons, ← Nat.bit_val]
    cases i with
    | zero => simp
    | succ i => rw [Nat.testBit_bit_succ, ih, List.getD_cons_succ]

/-- The first bit of a cycle is the most significant of its value. -/
theorem getLsbD_bitsValue {bits : List Bool} (h : bits.length = 32) (i : Fin 32) :
    (bitsValue bits).getLsbD i.val = bits.getD (31 - i.val) false := by
  have hi := i.isLt
  rw [bitsValue, BitVec.getLsbD_ofNat, List.foldl_eq_foldr_reverse, testBit_foldr_bits, List.getD_eq_getElem?_getD,
    List.getElem?_reverse (by omega), h]
  simp [hi]

/-! ## The code step (R91, R97, R98) -/

/-- A cycle completes when a bit that begins no cycle is appended to 31. -/
theorem completedCycle_append {bits : List Bool} {y : Symbol} (hmarker : y.marker = false) (h : bits.length = 31) :
    completedCycle (some bits) (some y) = some (bitsValue (bits ++ [y.bit])) := by
  simp [completedCycle, hmarker, h]

theorem completedCycle_none {a : Option (List Bool)} {y : Symbol}
    (h : y.marker = true ∨ ∀ bits, a = some bits → bits.length ≠ 31) : completedCycle a (some y) = none := by
  cases a with
  | none => rfl
  | some bits => simpa [completedCycle, or_iff_not_imp_left] using h

/-- With no cycle completed the code step is the debounce and the assembly. -/
theorem codeStep_of_no_cycle {t : Tool} {v : Option Symbol} (h : completedCycle t.assembly v = none) :
    t.codeStep v = { t.debounce v with assembly := assemblyAfter t.assembly v } := by
  have hassembly : (t.debounce v).assembly = t.assembly := rfl
  simp only [Tool.codeStep, Tool.identityStep, hassembly, h]

/-- A completed cycle hands its value to the identity fields. -/
theorem codeStep_of_cycle {t : Tool} {v : Option Symbol} {w : BitVec 32} (h : completedCycle t.assembly v = some w) :
    t.codeStep v = Tool.identityCycle { t.debounce v with assembly := assemblyAfter t.assembly v } w := by
  have hassembly : (t.debounce v).assembly = t.assembly := rfl
  simp only [Tool.codeStep, Tool.identityStep, hassembly, h]

/-- A completed cycle writes the identity fields alone. -/
theorem identityCycle_frame (t : Tool) (w : BitVec 32) : (t.identityCycle w).codeCandidate = t.codeCandidate
    ∧ (t.identityCycle w).acceptedCode = t.acceptedCode ∧ (t.identityCycle w).assembly = t.assembly := by
  unfold Tool.identityCycle
  repeat' split
  all_goals exact ⟨rfl, rfl, rfl⟩

/-- The fields that the debounce and the assembly write, whether or not a cycle completes. -/
theorem codeStep_debounced (t : Tool) (v : Option Symbol) : (t.codeStep v).codeCandidate = v.map (·.code)
    ∧ (t.codeStep v).acceptedCode = (t.debounce v).acceptedCode
    ∧ (t.codeStep v).assembly = assemblyAfter t.assembly v := by
  cases h : completedCycle t.assembly v with
  | none => rw [codeStep_of_no_cycle h]; exact ⟨rfl, rfl, rfl⟩
  | some w => rw [codeStep_of_cycle h]; exact identityCycle_frame _ w

theorem debounce_acceptedCode (t : Tool) (y : Symbol) : (t.debounce (some y)).acceptedCode =
    if t.codeCandidate = some y.code then some y.code else t.acceptedCode := by
  simp only [Tool.debounce, acceptedBy]
  split <;> simp_all

/-- An invalid or missing observation breaks the run and discards the assembly (R92, R97). -/
theorem codeStep_none (t : Tool) : t.codeStep none = { t with codeCandidate := none, assembly := none } :=
  codeStep_of_no_cycle rfl

/-- A completed cycle is judged by the identity fields before the step. -/
theorem codeStep_identityCycle {t : Tool} {v : Option Symbol} {w : BitVec 32} (h : completedCycle t.assembly v = some w) :
    ∃ u : Tool, t.codeStep v = u.identityCycle w ∧ u.identityStatus = t.identityStatus
      ∧ u.identityCandidate = t.identityCandidate ∧ u.identity = t.identity :=
  ⟨_, codeStep_of_cycle h, rfl, rfl, rfl⟩

/-! ## The identity after a completed cycle (R98) -/

section
variable {t : Tool} {w : BitVec 32}

theorem identityCycle_of_unknown (h : t.identityStatus = .unknown) : t.identityCycle w =
    { t with identityStatus := .partly, identityCandidate := some w, identity := none } := by
  simp only [Tool.identityCycle, h]

/-- Two equal values make the identity KNOWN. -/
theorem identityCycle_of_partly_same (h : t.identityStatus = .partly) (hw : t.identityCandidate = some w) :
    t.identityCycle w = { t with identityStatus := .known, identityCandidate := some w, identity := some w } := by
  simp only [Tool.identityCycle, h, if_pos hw]

theorem identityCycle_of_partly_other (h : t.identityStatus = .partly) (hw : t.identityCandidate ≠ some w) :
    t.identityCycle w = { t with identityStatus := .partly, identityCandidate := some w, identity := none } := by
  simp only [Tool.identityCycle, h, if_neg hw]

theorem identityCycle_of_known_same (h : t.identityStatus = .known) (hw : t.identity = some w) :
    t.identityCycle w = t := by
  simp only [Tool.identityCycle, h, if_pos hw]

/-- A different value withdraws a KNOWN identity. -/
theorem identityCycle_of_known_other (h : t.identityStatus = .known) (hw : t.identity ≠ some w) :
    t.identityCycle w = { t with identityStatus := .partly, identityCandidate := some w, identity := none } := by
  simp only [Tool.identityCycle, h, if_neg hw]

end

/-! ## The statement -/

/-- Settles O53: validity by the parity of four bits, the change by what was accepted, and the code step by whether a cycle
completes, whose value `w` is by its bits. -/
theorem codeAndIdentity : Obligations.CodeAndIdentity := by
  refine ⟨fun hold => ⟨rfl, fun o => ?_⟩, fun t v c => ?_, fun t v => ⟨?_, ?_⟩⟩
  · dsimp only
    simp only [validSymbol_some, goodParity_iff]
    exact ⟨fun hstrong heven => if_pos ⟨hstrong, heven⟩, fun hbad => if_neg (by omega)⟩
  · rw [codeChangeOf_eq_some, acceptedBy_eq_some, and_assoc]
  · rintro rfl
    exact codeStep_none t
  · rintro y rfl
    obtain ⟨hcandidate, haccepted, hassembly⟩ := codeStep_debounced t (some y)
    refine ⟨hcandidate, haccepted.trans (debounce_acceptedCode t y), fun hmarker => ?_, fun bits hmarker hbits hlt => ?_,
      fun hmarker hfull => ?_, fun hnone => ?_, fun bits w hmarker hbits hlen hw => ?_⟩
    · simp [hassembly, assemblyAfter, hmarker]
    · simp [hassembly, assemblyAfter, hmarker, hbits, hlt]
    · rcases hfull with hnone | ⟨bits, hbits, hge⟩
      · simp [hassembly, assemblyAfter, hmarker, hnone]
      · simp [hassembly, assemblyAfter, hmarker, hbits, hge]
    · rw [codeStep_of_no_cycle (completedCycle_none hnone)]
      exact ⟨rfl, rfl, rfl⟩
    · have hvalue : bitsValue (bits ++ [y.bit]) = w := BitVec.eq_of_getLsbD_eq fun i hi =>
        (getLsbD_bitsValue (by simp [hlen]) ⟨i, hi⟩).trans (hw ⟨i, hi⟩).symm
      have hcycle : completedCycle t.assembly (some y) = some w := by
        rw [hbits, completedCycle_append hmarker hlen, hvalue]
      obtain ⟨u, hstep, hsameStatus, hsameCandidate, hsameIdentity⟩ := codeStep_identityCycle hcycle
      rw [hstep, ← hsameStatus, ← hsameCandidate, ← hsameIdentity]
      refine ⟨fun hstatus => ?_, fun hstatus hsame => ?_, fun hstatus hother => ?_, fun hstatus hsame => ?_,
        fun hstatus hother => ?_⟩
      · rw [identityCycle_of_unknown hstatus]; exact ⟨rfl, rfl, rfl⟩
      · rw [identityCycle_of_partly_same hstatus hsame]; exact ⟨rfl, rfl, rfl⟩
      · rw [identityCycle_of_partly_other hstatus hother]; exact ⟨rfl, rfl, rfl⟩
      · rw [identityCycle_of_known_same hstatus hsame]; exact ⟨hstatus, rfl, hsame⟩
      · rw [identityCycle_of_known_other hstatus hother]; exact ⟨rfl, rfl, rfl⟩

end Sys2Proof.Machine
end

section
/-! SUPPORT. READ_ATTENTION (R95, R132, R181). -/

namespace Sys2Proof.Machine

theorem isIn_zero (e : Event) : e.isIn 0 = false := BitVec.getLsbD_zero

/-- CodeChange is pending with the lists, every other event with the record (R95). -/
theorem isIn_pendingEvents (ps : PortState) (e : Event) :
    e.isIn ps.pendingEvents = (e.isIn ps.events || (ps.codeChangePending && Event.codeChange == e)) := by
  unfold PortState.pendingEvents
  split
  · next h => rw [isIn_addTo, h, Bool.true_and]
  · next h => simp [h]

/-- CodeChange stays pending after a Read Attention while either list held two codes (R95). -/
theorem codeChangePending_drained (ps : PortState) :
    ps.drained.codeChangePending = true ↔ 2 ≤ ps.list0.length ∨ 2 ≤ ps.list1.length := by
  have htail : ∀ l : List (BitVec 4), l.tail.isEmpty = false ↔ 2 ≤ l.length := fun l => by
    rw [List.isEmpty_eq_false_iff, ← List.length_pos_iff, List.length_tail]
    omega
  simp [PortState.codeChangePending, PortState.drained, htail]

/-- READ_ATTENTION reports the record and drains it (R132). -/
theorem exec_readAttention {p : Port} {s : State} (h : s.control.mode ≠ .starting) : exec (.readAttention p) s =
    .next (s.setPort p { (s.port p).drained with sent := [], store := forming 0x20 .ok (s.attentionPayload p) }) := by
  simp only [exec, execReadAttention, request_eq h, setPort_answer]

/-- Bit 7 of a byte (R181). -/
theorem bitAt_seven (b : Bool) : bitAt 7 b = if b then 128 else 0 := by cases b <;> rfl

/-- Settles O21: the port after the request is the drained one with its answer, and of its events CodeChange alone can
be pending. -/
theorem readAttentionReportsAndClears : Obligations.ReadAttentionReportsAndClears := by
  intro p s hmode
  refine ⟨_, exec_readAttention hmode, by simp [OnlyPort], ?_, fun e => ?_⟩
  · rw [port_setPort_self]
    simp only [PortState.drained, State.attentionPayload, bitAt_seven, List.drop_one]
  · rw [port_setPort_self, isIn_pendingEvents]
    have hevents : ∀ sent store, e.isIn { (s.port p).drained with sent, store }.events = false := fun _ _ => isIn_zero e
    have hpending : ∀ sent store, { (s.port p).drained with sent, store }.codeChangePending
      = (s.port p).drained.codeChangePending := fun _ _ => rfl
    rw [hevents, hpending, Bool.false_or, Bool.and_eq_true, codeChangePending_drained, beq_iff_eq, and_comm,
      eq_comm (a := Event.codeChange)]

end Sys2Proof.Machine
end

section
/-! SUPPORT. The Sample Ring's invariant through every command (R103 to R106). -/

namespace Sys2Proof.Machine

/-! ## The shared operations -/

theorem RingOk.answer {s : State} (hs : RingOk s) (p : Port) (code : Byte) (r : ResultCode) (pl : List Byte) :
    RingOk (s.answer p code r pl) := hs.same (by simp [RingSame])

theorem RingOk.drivesZero {s : State} (hs : RingOk s) (p : Port) : RingOk (s.drivesZero p) := hs.same (by simp [RingSame])

theorem RingOk.elapse {s : State} (hs : RingOk s) (d : Nat) : RingOk (s.elapse d) := hs.same (by simp [RingSame])

/-- What a port holds besides its cursor is nothing to the ring (R105). -/
theorem RingOk.setPort {s : State} {p : Port} {ps : PortState} (hs : RingOk s) (h : ps.cursor = (s.port p).cursor) :
    RingOk (s.setPort p ps) := by
  refine hs.same ⟨setPort_ring .., setPort_nextSeq .., fun q => ?_⟩
  rw [port_setPort]
  split
  · next hq => rw [h, hq]
  · rfl

/-- A port whose cursor is NextSeq has nothing to read (R105, R110). -/
theorem RingOk.setPort_newest {s : State} {p : Port} {ps : PortState} (hs : RingOk s) (h : ps.cursor = s.nextSeq) :
    RingOk (s.setPort p ps) :=
  hs.newest p (setPort_ring ..) (setPort_nextSeq ..) (by rw [port_setPort_self, h]) (by rw [port_setPort_other])

/-! ## Restarts (R170) -/

theorem RingOk.restartWarm (s : State) : RingOk s.restartWarm := RingOk.empty rfl rfl fun p => by cases p <;> rfl

theorem RingOk.restartCold (s : State) : RingOk s.restartCold := RingOk.empty rfl rfl fun p => by cases p <;> rfl

/-! ## The requests that move a cursor (R108, R110, R136) -/

theorem RingOk.execReadSamples {p : Port} {count : Byte} {s t : State} (hs : RingOk s)
    (h : execReadSamples p count s = .next t) : RingOk t := by
  refine request_keeps h (hs.drivesZero p) ?_
  split
  · exact hs.answer ..
  · exact (hs.advance p _ (Nat.min_le_right _ _)).answer ..

theorem RingOk.execSkipToNewest {p : Port} {s t : State} (hs : RingOk s) (h : execSkipToNewest p s = .next t) :
    RingOk t :=
  request_keeps h (hs.drivesZero p) ((hs.setPort_newest rfl).answer ..)

/-- A Port Reset sets its port's cursor to NextSeq; the mode it ends leaves the ring (R136). -/
theorem RingOk.execPortReset {p : Port} {s t : State} (hs : RingOk s) (h : execPortReset p s = .next t) : RingOk t := by
  refine request_keeps h (hs.drivesZero p) ?_
  have hreset : RingOk (s.setPort p ((s.port p).resetTo s.settings s.nextSeq)) := hs.setPort_newest rfl
  exact hreset.same (by simp [RingSame])

/-- A command with a port of its own moves that port's cursor as its rule says, or leaves it. -/
theorem RingOk.execOwnPort {c : Instr} {p : Port} {s t : State} (hs : RingOk s) (hp : ownPort c = some p)
    (h : exec c s = .next t) : RingOk t := by
  cases c <;> simp only [ownPort, Option.some.injEq, reduceCtorEq] at hp <;> subst hp
  case readSamples => exact hs.execReadSamples h
  case skipToNewest => exact hs.execSkipToNewest h
  case fetchResponse =>
    simp only [exec, execFetchResponse] at h
    split at h <;> cases h
    · exact hs.setPort rfl
    · exact hs.drivesZero _
  case answerReady =>
    cases h
    exact hs.setPort rfl
  all_goals
    simp only [exec, execReadLatest, execReadStatus, execReadAttention, execSetAttentionMask, execSetTick, execAckTick,
      execSetWatermark, execReadTaskResult, execReadPlan, execReadMapRow, execReadSettings, execUnknownCode,
      execBadLength] at h
    refine request_keeps h (hs.drivesZero _) ?_
  case readLatest | readStatus | readSettings | unknownCode | badLength => exact hs.answer ..
  case readAttention | ackTick | setWatermark | readTaskResult => exact RingOk.answer (hs.setPort (by rfl)) ..
  case setAttentionMask | setTick =>
    split
    · exact hs.answer ..
    · exact RingOk.answer (hs.setPort (by rfl)) ..
  case readMapRow => split <;> exact hs.answer ..
  case readPlan =>
    repeat' split
    all_goals exact hs.answer ..

/-! ## Every command -/

/-- Every command keeps the ring in Seq order, at most 512 records, both cursors within it: the requests leave the ring or
move a cursor within it, the events that end a frame append to it, a restart empties it. -/
theorem RingOk.exec {c : Instr} {s t : State} (hs : RingOk s) (h : exec c s = .next t) : RingOk t := by
  cases hp : ownPort c with
  | some p => exact hs.execOwnPort hp h
  | none =>
    cases hq : settingsPort c with
    | some p =>
      refine exec_settingsPort_keeps hq h (hs.drivesZero p) (fun _ _ => hs.answer ..) (fun _ _ _ => ?_)
      exact hs.same (by simp [RingSame, State.changeSetting])
    | none =>
    cases c <;> simp only [ownPort, settingsPort, reduceCtorEq] at hp hq
    case portReset => exact hs.execPortReset h
    case setView p a =>
      refine request_keeps (show execSetView p a s = .next t from h) (hs.drivesZero p) ?_
      split
      · exact hs.answer ..
      · exact RingOk.answer (hs.setPort (by rfl)) ..
    case abortTask | setPlan | setGrid | holdScan | resumeScan | coilSurvey | readCapture =>
      simp only [Machine.exec, execAbortTask, execSetPlan, execSetGrid, execHoldScan, execResumeScan, execCoilSurvey,
        execReadCapture] at h
      refine request_keeps h (hs.drivesZero _) ?_
      repeat' split
      all_goals exact hs.same (by simp [RingSame])
    case coldRestart p =>
      exact request_keeps (show execColdRestart p s = .next t from h) (hs.drivesZero p) ((RingOk.restartCold s).drivesZero p)
    case warmRestart p =>
      exact request_keeps (show execWarmRestart p s = .next t from h) (hs.drivesZero p) ((RingOk.restartWarm s).drivesZero p)
    case scheduledFrameStart =>
      rcases execScheduledFrameStart_next h with rfl | ⟨-, rfl⟩
      · exact hs
      · exact hs.same (by simp [RingSame])
    case midPoint =>
      rcases execMidPoint_next h with rfl | ⟨u, rfl, rfl⟩
      · exact hs
      · exact hs.same (by simp [RingSame])
    case dsync =>
      rcases execDsync_next h with rfl | ⟨-, -, rfl⟩
      · exact hs
      · exact hs.dsyncPulse
    case syncTimerExpiry =>
      rcases execSyncTimerExpiry_next h with rfl | ⟨d, -, rfl⟩
      · exact hs
      · exact hs.same (by simp [RingSame])
    case slotBegin =>
      rcases execSlotBegin_next h with rfl | ⟨k, -, rfl⟩
      · exact hs
      · exact hs.beginSlot k
    case driveBusyFall =>
      rcases execDriveBusyFall_next h with rfl | ⟨k, j, -, rfl⟩
      all_goals exact hs.same (by simp [RingSame, State.withBusy])
    case driveBusyRise =>
      have hhigh : RingOk (s.withBusy true) := hs.same (by simp [RingSame, State.withBusy])
      rcases execDriveBusyRise_next h with rfl | ⟨k, -, rfl⟩
      · exact hhigh
      · exact hhigh.endSlot k .cut
    case slipExpiry =>
      rcases execSlipExpiry_next h with rfl | ⟨k, d, -, rfl⟩
      · exact hs
      · exact (hs.elapse _).endSlot k .skipped
    case excitationEnd =>
      rcases execExcitationEnd_next h with rfl | ⟨u, run, d, -, rfl, rfl⟩
      · exact hs
      · exact hs.same (by simp [RingSame])
    case listenEnd r =>
      rcases execListenEnd_next h with rfl | ⟨k, j, d, -, rfl⟩
      · exact hs
      · exact RingOk.endSlot (hs.same (by simp [RingSame])) k .done
    case autoResumeExpiry =>
      rcases execAutoResumeExpiry_next h with rfl | ⟨d, n, -, rfl⟩
      · exact hs
      · exact hs.same (by simp [RingSame])
    case startingEnd =>
      rcases execStartingEnd_next h with rfl | ⟨d, -, rfl⟩
      · exact hs
      · exact hs.same (by simp [RingSame, State.scanBegun])
    case keySample =>
      rcases execKeySample_next h with rfl | ⟨u, keys, changed, rfl, rfl⟩
      · exact hs
      · exact hs.same (by simp [RingSame])
    case keyRestartHoldExpiry =>
      rcases execKeyRestartHoldExpiry_next h with rfl | ⟨u, d, rfl, rfl⟩
      · exact hs
      · exact RingOk.restartWarm _
    case powerOn | resetNLow | resetNRise | powerFail =>
      rcases exec_power_next (by simp) h with rfl | ⟨u, rfl | rfl⟩
      · exact hs.same (by simp [RingSame])
      all_goals exact (RingOk.restartCold u).same (by simp [RingSame, State.restartPowerOn, State.heldAtRestart])

/-- Settles O9: each command keeps `RingOk`, case by case, and so does the passing of time. -/
theorem stepKeepsRing : Obligations.StepKeepsRing := fun _ _ =>
  step_keeps (fun _ hs => hs.elapse 1) (fun _ _ hs => hs.same (by simp [RingSame])) (fun _ _ _ => RingOk.exec)

end Sys2Proof.Machine
end

section
/-! SUPPORT. The numbers and the sample record in bytes (R178, R179), the records a port has not passed (R105, R108), the
append of a frame end (R103, R106). -/

namespace Sys2Proof.Machine

/-! ## Bytes (R178, R179) -/

/-- A signed number goes as its residue modulo 65536, two's complement (R178). -/
theorem i16_eq (z : Int) : i16 z = u16 (z % 65536).toNat := congrArg u16 (BitVec.toNat_ofInt z)

theorem bitAt_eq_ite (i : Nat) (b : Bool) : bitAt i b = if b then 2 ^ i else 0 := by cases b <;> simp [bitAt]

theorem sampleBytes_length (c : Settings) (v : View) (r : Sample) : (sampleBytes c v r).length = 19 := rfl

/-! ## The backlog (R105) -/

/-- NextSeq stands the backlog after the cursor (R105). -/
theorem cursor_add_backlog (s : State) (p : Port) : (s.port p).cursor + BitVec.ofNat 16 (s.backlog p) = s.nextSeq := by
  rw [State.backlog, BitVec.ofNat_toNat, BitVec.setWidth_eq, BitVec.add_comm, BitVec.sub_add_cancel]

/-- The distance to a NextSeq moved on by `k` from a cursor moved on by `e`. -/
theorem toNat_advance_sub_advance (n c : BitVec 16) (k e : Nat) (he : e ≤ (n - c).toNat + k)
    (hlt : (n - c).toNat + k - e < 65536) :
    (n + BitVec.ofNat 16 k - (c + BitVec.ofNat 16 e)).toNat = (n - c).toNat + k - e := by
  simp only [BitVec.toNat_sub, BitVec.toNat_add, BitVec.toNat_ofNat] at he hlt ⊢
  omega

/-- The backlog of a port whose cursor has moved on by `r` (R105). -/
theorem backlog_setPort {s : State} {p : Port} {ps : PortState} {r : Nat}
    (hcursor : ps.cursor = (s.port p).cursor + BitVec.ofNat 16 r) (hr : r ≤ s.backlog p) :
    (s.setPort p ps).backlog p = s.backlog p - r := by
  have hlt : s.backlog p < 65536 := BitVec.isLt _
  have h := toNat_advance_sub_advance s.nextSeq (s.port p).cursor 0 r hr (Nat.lt_of_le_of_lt (Nat.sub_le _ _) hlt)
  rw [State.backlog, setPort_nextSeq, port_setPort_self, hcursor]
  simpa only [Nat.add_zero, BitVec.add_zero, State.backlog] using h

/-! ## The records a port has not passed (R105, R108) -/

theorem readable_length {s : State} {p : Port} {r : Nat} (hs : RingOk s) (hr : r ≤ s.backlog p) :
    (s.readable p r).length = r := by
  have hb := hs.backlog p
  simp only [State.readable, List.length_take, List.length_drop]
  omega

theorem mem_ring_of_mem_readable {s : State} {p : Port} {r : Nat} {x : Sample} (h : x ∈ s.readable p r) : x ∈ s.ring :=
  List.mem_of_mem_drop (List.mem_of_mem_take h)

/-- Record `k` of those from the cursor on has the cursor's Seq moved on by `k` (R105, R108). -/
theorem readable_seq {s : State} {p : Port} {r k : Nat} {x : Sample} (hs : RingOk s) (hr : r ≤ s.backlog p)
    (h : (s.readable p r)[k]? = some x) : x.seq = (s.port p).cursor + BitVec.ofNat 16 k := by
  have hb := hs.backlog p
  obtain ⟨hk, rfl⟩ := List.getElem?_eq_some_iff.1 h
  rw [readable_length hs hr] at hk
  have horder := hs.order (s.ring.length - s.backlog p + k) (by omega)
  have hrest : s.ring.length - (s.ring.length - s.backlog p + k) = s.backlog p - k := by omega
  have hnext := cursor_add_backlog s p
  rw [← Nat.add_sub_cancel' (show k ≤ s.backlog p by omega), BitVec.ofNat_add, ← BitVec.add_assoc] at hnext
  rw [hrest, ← hnext, BitVec.add_left_inj] at horder
  simpa [State.readable] using horder

/-! ## READ_SAMPLES and SKIP_TO_NEWEST (R108, R110) -/

theorem readCount_eq (s : State) (p : Port) {count : Byte} (h : count ≠ 0) :
    s.readCount p count = min (min count.toNat 16) (s.backlog p) := by
  have hpos : 1 ≤ count.toNat := by bv_omega
  rw [State.readCount, clampNat_eq_max_min (by decide), max_eq_right (le_min hpos (by decide)), Config.maxReadCount]

theorem readCount_le_backlog (s : State) (p : Port) (count : Byte) : s.readCount p count ≤ s.backlog p :=
  Nat.min_le_right _ _

theorem exec_readSamples_zero {p : Port} {s : State} (h : s.control.mode ≠ .starting) : exec (.readSamples p 0) s =
    .next (s.setPort p { s.port p with sent := [], store := forming 0x10 .badValue [] }) := by
  simp only [exec, execReadSamples, request_eq h, if_true]
  rfl

theorem exec_readSamples {p : Port} {count : Byte} {s : State} (h : s.control.mode ≠ .starting) (hc : count ≠ 0) :
    exec (.readSamples p count) s = .next (s.setPort p { s.port p with
      cursor := (s.port p).cursor + BitVec.ofNat 16 (s.readCount p count)
      sent := []
      store := forming 0x10 .ok (s.samplesPayload p (s.readCount p count)) }) := by
  simp only [exec, execReadSamples, request_eq h, if_neg hc, State.advanceCursor, setPort_answer]

theorem exec_skipToNewest {p : Port} {s : State} (h : s.control.mode ≠ .starting) : exec (.skipToNewest p) s =
    .next (s.setPort p { s.port p with
      cursor := s.nextSeq
      sent := []
      store := forming 0x11 .ok (u16 (s.backlog p) ++ u16 s.nextSeq.toNat) }) := by
  simp only [exec, execSkipToNewest, request_eq h, setPort_answer]

/-- Settles O18: the bytes of numbers and of a record, then each request's one effect. -/
theorem ringReadsMoveOnlyTheirCursor : Obligations.RingReadsMoveOnlyTheirCursor := by
  refine ⟨fun n => ⟨rfl, rfl, rfl⟩, i16_eq, fun c v r => ⟨sampleBytes_length c v r, ?_⟩, fun p s h =>
    ⟨exec_readSamples_zero h, fun count r hc hr => ?_, exec_skipToNewest h⟩⟩
  · simp only [sampleBytes, bitAt_eq_ite]
    rfl
  · rw [exec_readSamples h hc, readCount_eq s p hc, ← hr]
    rfl

/-- Settles O19: the records returned are `State.readable`, whose Seq values run on from the cursor. -/
theorem readSamplesReturnsOldestUnread : Obligations.ReadSamplesReturnsOldestUnread := by
  intro p s count hs h hc
  have hle := readCount_le_backlog s p count
  have hlength := readable_length hs hle
  have hbacklog := backlog_setPort (s := s) (p := p) (r := s.readCount p count) (ps := { s.port p with
    cursor := (s.port p).cursor + BitVec.ofNat 16 (s.readCount p count)
    sent := []
    store := forming 0x10 .ok (s.samplesPayload p (s.readCount p count)) }) rfl hle
  refine ⟨s.readable p (s.readCount p count), _, exec_readSamples h hc, ?_,
    fun k r hr => ⟨?_, readable_seq hs hle hr⟩, ?_, ?_⟩
  · rw [hlength, readCount_eq s p hc]
  · exact mem_ring_of_mem_readable (List.mem_of_getElem? hr)
  · rw [hbacklog, hlength]
  · rw [hbacklog, hlength, port_setPort_self]
    rfl

/-! ## The append (R103, R106) -/

theorem port_raiseIf {s : State} (c : Bool) (e : Event) (p q : Port) (h : s.control.mode ≠ .starting) :
    (s.raiseIf c e p).port q
      = if c = true ∧ q = p then { s.port q with events := e.addTo (s.port q).events } else s.port q := by
  cases c <;> simp [State.raiseIf, port_raise, h]

/-- A port after an append: moved on by an overrun's excess, with Overrun raised where there is one (R106). -/
theorem append_port {s : State} {rs : List Sample} (hmode : s.control.mode ≠ .starting) (hrs : rs ≠ []) (p : Port) :
    (s.append rs).port p =
      if s.overruns p rs.length = true then
        { (s.port p).overrun s.nextSeq rs.length with events := Event.addTo .overrun (s.port p).events }
      else (s.port p).overrun s.nextSeq rs.length := by
  rw [State.append, if_neg (by simpa using hrs), port_raiseIf _ _ _ _ (by simpa using hmode),
    port_raiseIf _ _ _ _ (by simpa using hmode)]
  cases p <;> simp [State.port, PortState.overrun]

theorem overruns_iff {s : State} {p : Port} {k : Nat} : s.overruns p k = true ↔ 512 < s.backlog p + k := decide_eq_true_iff

/-- The excess of a port's backlog over 512 is what an append moves its cursor on by (R106). -/
theorem overrun_eq (s : State) (p : Port) (k : Nat) : (s.port p).overrun s.nextSeq k
    = { s.port p with cursor := (s.port p).cursor + BitVec.ofNat 16 (s.backlog p + k - 512) } := rfl

/-- An append that the backlog leaves room for moves no cursor (R106). -/
theorem overrun_of_fits {s : State} {p : Port} {k : Nat} (h : s.backlog p + k ≤ 512) :
    (s.port p).overrun s.nextSeq k = s.port p := by
  rw [overrun_eq, Nat.sub_eq_zero_of_le h, BitVec.add_zero]

/-- The backlog after an append of at most two records, its excess over 512 taken off (R106). -/
theorem append_backlog {s : State} {rs : List Sample} (hs : RingOk s) (hmode : s.control.mode ≠ .starting) (hrs : rs ≠ [])
    (hlen : rs.length ≤ 2) (p : Port) :
    (s.append rs).backlog p = s.backlog p + rs.length - (s.backlog p + rs.length - 512) := by
  have hb := hs.backlog p
  have hcap := hs.capacity
  have hcursor : ((s.append rs).port p).cursor
      = (s.port p).cursor + BitVec.ofNat 16 (s.backlog p + rs.length - 512) := by
    rw [append_port hmode hrs, overrun_eq]
    split <;> rfl
  rw [State.backlog, append_nextSeq, hcursor]
  simp only [Config.ringCapacity] at hcap
  exact toNat_advance_sub_advance _ _ _ _ (Nat.sub_le _ _) (by rw [← State.backlog]; omega)

/-- Settles O51: the ring and NextSeq by the append's own lemmas, each port by whether its backlog has room. -/
theorem appendAndOverrun : Obligations.AppendAndOverrun := by
  intro s rs hs hmode hlen t joined
  have hrs : rs ≠ [] := by
    rintro rfl
    simp at hlen
  have hjoined : joined = s.ring ++ numbered s.nextSeq rs :=
    congrArg (s.ring ++ ·) (by simpa using (numbered_eq rs s.nextSeq 0).symm)
  have hbacklog := append_backlog hs hmode hrs (by omega)
  refine ⟨?_, append_nextSeq s rs, fun p => ⟨fun hfits => ⟨?_, ?_⟩, fun hover => ⟨?_, ?_⟩⟩⟩
  · rw [hjoined]
    exact append_ring s rs hs.capacity
  · rw [append_port hmode hrs, if_neg (by rw [overruns_iff]; omega), overrun_of_fits hfits]
  · rw [hbacklog]
    omega
  · rw [hbacklog]
    omega
  · rw [append_port hmode hrs, if_pos (overruns_iff.2 hover), overrun_eq]

end Sys2Proof.Machine
end

section
/-! SUPPORT. READ_LATEST, READ_STATUS, READ_SETTINGS, READ_MAP_ROW, READ_PLAN and their bytes (R113, R147, R163, R165, R176 to
R181). -/

namespace Sys2Proof.Machine

/-! ## Bytes (R176, R180) -/

theorem mappedBytes_length (m : Option Mapped) : (mappedBytes m).length = 4 := by cases m <;> rfl

theorem snapshotBytes_length (c : Settings) (v : View) (n : Snapshot) (pred : Option Pt) :
    (snapshotBytes c v n pred).length = 29 := by
  simp [snapshotBytes, mappedBytes_length, u8, u16, u32, i16]

/-- A two-byte field goes most significant byte first (R175, R178). -/
theorem halfBytes_eq (h : Half) : halfBytes h = u16 h.toNat := by
  have hhigh : h.extractLsb' 8 8 = BitVec.ofNat 8 (h.toNat / 256) := by
    apply BitVec.eq_of_toNat_eq
    simp [BitVec.extractLsb'_toNat, Nat.shiftRight_eq_div_pow]
  have hlow : h.extractLsb' 0 8 = BitVec.ofNat 8 h.toNat := by
    apply BitVec.eq_of_toNat_eq
    simp [BitVec.extractLsb'_toNat]
  rw [halfBytes, hhigh, hlow, u16]

theorem slotRecord_bytes_eq (r : SlotRecord) : r.bytes = [r.function, r.tool] ++ u16 r.start.toNat ++ u16 r.excite.toNat
    ++ u16 r.listen.toNat ++ u16 r.slip.toNat ++ [r.guard] := by
  simp only [SlotRecord.bytes, halfBytes_eq]

theorem planBytes_eq (plan : Plan) : planBytes plan = plan.toList.flatMap fun r =>
    [r.function, r.tool] ++ u16 r.start.toNat ++ u16 r.excite.toNat ++ u16 r.listen.toNat ++ u16 r.slip.toNat
      ++ [r.guard] := by
  simp only [planBytes, ← slotRecord_bytes_eq]

/-! ## The reads, each its answer alone (R125) -/

section
variable {p : Port} {s : State} (h : s.control.mode ≠ .starting)
include h

theorem exec_readLatest : exec (.readLatest p) s = .next (s.answer p 0x12 .ok (s.latestPayload p)) := by
  simp only [exec, execReadLatest, request_eq h]

theorem exec_readStatus : exec (.readStatus p) s = .next (s.answer p 0x13 .ok (s.statusPayload p)) := by
  simp only [exec, execReadStatus, request_eq h]

theorem exec_readSettings : exec (.readSettings p) s = .next (s.answer p 0x49 .ok s.settingsPayload) := by
  simp only [exec, execReadSettings, request_eq h]

theorem exec_readMapRow {row : Byte} {j : Fin 7} (hrow : row.toNat = j.val) : exec (.readMapRow p row) s =
    .next (s.answer p 0x48 .ok (rowBytes s.settings.map[j] ++ flag s.waiting.map[j].isSome)) := by
  simp only [exec, execReadMapRow, request_eq h, indexOf_eq_some hrow]

theorem exec_readMapRow_of_le {row : Byte} (hrow : 7 ≤ row.toNat) :
    exec (.readMapRow p row) s = .next (s.answer p 0x48 .badValue []) := by
  simp only [exec, execReadMapRow, request_eq h, indexOf_eq_none hrow]

theorem exec_readPlan_active : exec (.readPlan p 0) s = .next (s.answer p 0x39 .ok
    (u16 s.settings.timing.framePeriod ++ flag s.frame.pendingPlan.isSome ++ planBytes s.frame.activePlan)) := by
  simp only [exec, execReadPlan, request_eq h, if_true]

theorem exec_readPlan_pending {q : PendingPlan} (hq : s.frame.pendingPlan = some q) :
    exec (.readPlan p 1) s = .next (s.answer p 0x39 .ok (portByte (some q.issuer) ++ planBytes q.plan)) := by
  simp [exec, execReadPlan, request_eq h, hq]

theorem exec_readPlan_none (hq : s.frame.pendingPlan = none) :
    exec (.readPlan p 1) s = .next (s.answer p 0x39 .rejected []) := by
  simp [exec, execReadPlan, request_eq h, hq]

theorem exec_readPlan_of_lt {which : Byte} (hw : 1 < which.toNat) :
    exec (.readPlan p which) s = .next (s.answer p 0x39 .badValue []) := by
  have h0 : which ≠ 0 := by bv_omega
  have h1 : which ≠ 1 := by bv_omega
  simp only [exec, execReadPlan, request_eq h, if_neg h0, if_neg h1]

end

/-! ## The payloads, item by item (R147, R163, log entry 9) -/

theorem surveyBytes_of_some {s : State} {v : Survey} (h : s.control.survey = some v) :
    s.surveyBytes = [1] ++ u8 v.frames ++ u8 v.bx ++ u8 v.byy ++ flag v.xDone ++ flag v.yDone := by
  rw [State.surveyBytes, h]
  rfl

theorem surveyBytes_of_none {s : State} (h : s.control.survey = none) : s.surveyBytes = [0, 0, 0, 0, 0, 0] := by
  rw [State.surveyBytes, h]
  rfl

theorem waitingBytes_eq (α : Type) : (waitingBytes : Option (Change α) → List Byte) =
    fun w => flag (w.map (·.port)).isSome ++ portByte (w.map (·.port)) := by
  funext w
  rw [waitingBytes, Option.isSome_map]

/-- An answer whose payload is spelled another way. -/
theorem exec_answer_congr {c : Instr} {p : Port} {s : State} {code : Byte} {r : ResultCode} {pl pl' : List Byte}
    (h : exec c s = .next (s.answer p code r pl)) (hpl : pl = pl') :
    exec c s = .next (s.setPort p { s.port p with sent := [], store := forming code r pl' }) := hpl ▸ h

/-- Settles O20: the bytes first, then each read by its equation, the two long payloads item by item. -/
theorem readsChangeOnlyTheAnswer : Obligations.ReadsChangeOnlyTheAnswer := by
  refine ⟨fun c v n pred => ⟨snapshotBytes_length c v n pred, ?_⟩, by decide, planBytes_eq,
    fun t f k g row => ⟨rfl, rfl, rfl, rfl, rfl⟩, fun p s h => ?_⟩
  · simp only [snapshotBytes, bitAt_eq_ite]
    cases n.rep <;> cases pred <;> rfl
  · refine ⟨exec_readLatest h, exec_answer_congr (exec_readStatus h) ?_, exec_answer_congr (exec_readSettings h) ?_,
      fun row j => exec_readMapRow h, fun row => exec_readMapRow_of_le h, exec_readPlan_active h,
      fun q => exec_readPlan_pending h, exec_readPlan_none h, fun which => exec_readPlan_of_lt h⟩
    · unfold State.statusPayload toolStatusBytes State.effAcquire State.effHold
      cases hsurvey : s.control.survey with
      | none => simp only [surveyBytes_of_none hsurvey]
      | some v => simp only [surveyBytes_of_some hsurvey]
    · simp only [State.settingsPayload, gridBytes, Waiting.bytes, waitingBytes_eq, Option.map_none, List.append_assoc]

end Sys2Proof.Machine
end

section
/-! SUPPORT. The requests that write an item of their port: mask, tick point, tick, watermark, view (R107, R115, R131, R133,
R134). -/

namespace Sys2Proof.Machine

/-! ## Mask, ticks, watermark (R107, R131, R133, R134) -/

section
variable {p : Port} {s : State} (h : s.control.mode ≠ .starting)
include h

theorem exec_setAttentionMask {mask : Half} (hm : mask.toNat < 16384) : exec (.setAttentionMask p mask) s =
    .next (s.setPort p { s.port p with
      mask := mask ||| 0x2000, sent := [], store := forming 0x21 .ok (u16 (mask ||| 0x2000).toNat) }) := by
  simp only [exec, execSetAttentionMask, request_eq h, maskOf, if_pos hm, setPort_answer]

theorem exec_setAttentionMask_of_le {mask : Half} (hm : 16384 ≤ mask.toNat) :
    exec (.setAttentionMask p mask) s = .next (s.answer p 0x21 .badValue []) := by
  simp only [exec, execSetAttentionMask, request_eq h, maskOf, if_neg (not_lt.2 hm)]

/-- A tick point is written, and OFF withdraws the tick (R133). -/
theorem exec_setTick {point : Byte} {t : TickPoint} (ht : tickPointOf point = some t) : exec (.setTick p point) s =
    .next (s.setPort p { s.port p with
      tickPoint := t, tickPending := (s.port p).tickPending && t != .off, sent := [], store := forming 0x22 .ok [] }) := by
  simp only [exec, execSetTick, request_eq h, ht, setPort_answer]

theorem exec_setTick_of_lt {point : Byte} (hpoint : 2 < point.toNat) :
    exec (.setTick p point) s = .next (s.answer p 0x22 .badValue []) := by
  have h0 : point ≠ 0 := by bv_omega
  have h1 : point ≠ 1 := by bv_omega
  have h2 : point ≠ 2 := by bv_omega
  simp only [exec, execSetTick, request_eq h, tickPointOf, if_neg h0, if_neg h1, if_neg h2]

theorem exec_ackTick : exec (.ackTick p) s = .next (s.setPort p { s.port p with
    tickPending := false, sent := [], store := forming 0x23 .ok (flag (s.port p).tickPending) }) := by
  simp only [exec, execAckTick, request_eq h, setPort_answer]

theorem exec_setWatermark (value : Half) : exec (.setWatermark p value) s = .next (s.setPort p { s.port p with
    watermark := watermarkOf value, sent := [], store := forming 0x29 .ok (u16 (watermarkOf value)) }) := by
  simp only [exec, execSetWatermark, request_eq h, setPort_answer]

end

theorem watermarkOf_eq (value : Half) : watermarkOf value = max 1 (min value.toNat 512) := clampNat_eq_max_min (by decide) _

/-- Settles O22: one equation per request, its value spelled as the request's rule does. -/
theorem portItemWrites : Obligations.PortItemWrites := by
  intro p s h
  refine ⟨fun mask => exec_setAttentionMask h, fun mask => exec_setAttentionMask_of_le h, ?_, ?_, ?_,
    fun point => exec_setTick_of_lt h, exec_ackTick h, fun value => ?_⟩
  · rw [exec_setTick h (t := .off) rfl, bne_self_eq_false, Bool.and_false]
  · rw [exec_setTick h (t := .frameStart) rfl, show (TickPoint.frameStart != .off) = true from rfl, Bool.and_true]
  · rw [exec_setTick h (t := .midFrame) rfl, show (TickPoint.midFrame != .off) = true from rfl, Bool.and_true]
  · rw [exec_setWatermark h, watermarkOf_eq]

/-! ## The view (R114, R115) -/

theorem viewKindOf_eq_some_iff {b : Byte} {k : ViewKind} :
    viewKindOf b = some k ↔ b.toNat < 2 ∧ k = if b = 0 then .grid else .display := by
  rw [Nat.lt_succ_iff, byte_le_one_iff, viewKindOf]
  split
  · next h => simp [h, eq_comm]
  · next h0 =>
    split
    · next h1 => simp [h1, eq_comm]
    · next h1 => simp only [h0, h1, or_self, false_and, reduceCtorEq]

theorem orientationOf_eq_some_iff {b : Byte} {o : Orientation} : orientationOf b = some o ↔ b.toNat < 4
    ∧ o = if b = 0 then .deg0 else if b = 1 then .deg90 else if b = 2 then .deg180 else .deg270 := by
  have hlt : b.toNat < 4 ↔ b = 0 ∨ b = 1 ∨ b = 2 ∨ b = 3 := by bv_omega
  rw [hlt, orientationOf]
  split
  · next h => simp [h, eq_comm]
  · next h0 =>
    split
    · next h1 => simp [h1, eq_comm]
    · next h1 =>
      split
      · next h2 => simp [h2, eq_comm]
      · next h2 =>
        split
        · next h3 => simp [h3, eq_comm]
        · next h3 => simp only [h0, h1, h2, h3, or_self, false_and, reduceCtorEq]

/-- A number sent is never below 0, so that clamping it to a span only brings it down (R115). -/
theorem clamp_zero_natCast (hi : Int) (n : Nat) : clamp 0 hi n = min (n : Int) hi := by
  unfold clamp
  split
  · omega
  · split <;> omega

/-- What Set View allows: kinds, orientations and sizes of R114, and an area that is left one on each axis (R115). -/
def ViewAllowed (c : Settings) (a : ViewArgs) : Prop :=
  a.viewKind.toNat < 2 ∧ a.orientation.toNat < 4 ∧ 1 ≤ a.width.toNat ∧ a.width.toNat ≤ 8192 ∧ 1 ≤ a.height.toNat
    ∧ a.height.toNat ≤ 8192 ∧ min (a.x0.toNat : Int) c.xSpan < min (a.x1.toNat : Int) c.xSpan
    ∧ min (a.y0.toNat : Int) c.ySpan < min (a.y1.toNat : Int) c.ySpan

/-- The view of an allowed Set View, clamped to the grid in force (R115). -/
def clampedView (c : Settings) (a : ViewArgs) : View where
  kind := if a.viewKind = 0 then .grid else .display
  x0 := min (a.x0.toNat : Int) c.xSpan
  x1 := min (a.x1.toNat : Int) c.xSpan
  y0 := min (a.y0.toNat : Int) c.ySpan
  y1 := min (a.y1.toNat : Int) c.ySpan
  width := a.width.toNat
  height := a.height.toNat
  orientation := if a.orientation = 0 then .deg0 else if a.orientation = 1 then .deg90
    else if a.orientation = 2 then .deg180 else .deg270
  lead := min a.lead.toNat 20000

theorem viewOf_eq_some_iff {c : Settings} {a : ViewArgs} {v : View} :
    viewOf c a = some v ↔ ViewAllowed c a ∧ v = clampedView c a := by
  unfold viewOf
  split
  · next kind orientation hkind horientation =>
    obtain ⟨hkindLt, rfl⟩ := viewKindOf_eq_some_iff.1 hkind
    obtain ⟨horientationLt, rfl⟩ := orientationOf_eq_some_iff.1 horientation
    simp only [Option.ite_none_right_eq_some, Bool.and_eq_true, within_iff, Option.some.injEq, clamp_zero_natCast,
      clampNat_eq_max_min, Nat.zero_le, Nat.zero_max, ViewAllowed, clampedView, hkindLt, horientationLt, true_and, and_assoc,
      eq_comm (b := v)]
  · next hnone =>
    simp only [reduceCtorEq, false_iff]
    rintro ⟨⟨hkind, horientation, -⟩, -⟩
    exact hnone _ _ (viewKindOf_eq_some_iff.2 ⟨hkind, rfl⟩) (orientationOf_eq_some_iff.2 ⟨horientation, rfl⟩)

theorem exec_setView {p : Port} {a : ViewArgs} {s : State} (h : s.control.mode ≠ .starting)
    (ha : ViewAllowed s.settings a) : exec (.setView p a) s = .next (s.setPort p { s.port p with
      view := clampedView s.settings a, sent := [], store := forming 0x28 .ok (areaBytes (clampedView s.settings a)) }) := by
  simp only [exec, execSetView, request_eq h, viewOf_eq_some_iff.2 ⟨ha, rfl⟩, setPort_answer]

theorem exec_setView_of_not {p : Port} {a : ViewArgs} {s : State} (h : s.control.mode ≠ .starting)
    (ha : ¬ ViewAllowed s.settings a) : exec (.setView p a) s = .next (s.answer p 0x28 .badValue []) := by
  have hnone : viewOf s.settings a = none :=
    Option.eq_none_iff_forall_ne_some.2 fun v hv => ha (viewOf_eq_some_iff.1 hv).1
  simp only [exec, execSetView, request_eq h, hnone]

/-- Settles O23: what is allowed is written as `clampedView`, anything else is refused. -/
theorem setViewWritesOrRefuses : Obligations.SetViewWritesOrRefuses := fun _ a s h =>
  ⟨fun ha => ⟨clampedView s.settings a, exec_setView h ha, rfl, rfl, rfl, rfl, rfl, rfl, rfl, rfl, rfl⟩,
    exec_setView_of_not h⟩

end Sys2Proof.Machine
end

section
/-! SUPPORT. What a view reports of a position and of a tilt (R116 to R119). -/

namespace Sys2Proof.Machine

/-! ## One axis of the area (R117, R119) -/

/-- Bringing a value into a range changes it exactly when it lies outside (R119). -/
theorem clamp_ne_iff {lo hi : Int} (h : lo ≤ hi) (v : Int) : clamp lo hi v ≠ v ↔ ¬ (lo ≤ v ∧ v ≤ hi) := by
  rw [clamp_eq_max_min h]
  omega

/-- A step `a` of `e` lands on one of `n` pixels (R117). -/
theorem scaled_mem {a e n : Int} (ha : 0 ≤ a) (hae : a < e) (hn : 1 ≤ n) : 0 ≤ a * n / e ∧ a * n / e < n := by
  have he : 0 < e := by omega
  refine ⟨Int.ediv_nonneg (mul_nonneg ha (by omega)) he.le, Int.ediv_lt_of_lt_mul he ?_⟩
  rw [mul_comm n]
  exact mul_lt_mul_of_pos_right hae (by omega)

/-- The last step of an area no coarser than the panel lands on the last pixel (R117). -/
theorem scaled_last {e n : Int} (hn : 1 ≤ n) (hne : n ≤ e) : (e - 1) * n / e = n - 1 := by
  have he : 0 < e := by omega
  have hsplit : (e - 1) * n = (e - n) + (n - 1) * e := by ring
  rw [hsplit, Int.add_mul_ediv_right _ _ he.ne', Int.ediv_eq_zero_of_lt (by omega) (by omega), zero_add]

/-! ## The two kinds of view -/

theorem mapPos_of_grid {v : View} (h : v.kind = .grid) (c : Settings) (p : Pt) : v.mapPos c p = v.mapGrid c p := by
  rw [View.mapPos, h]

theorem mapPos_of_display {v : View} (h : v.kind = .display) (c : Settings) (p : Pt) : v.mapPos c p = v.mapDisplay p := by
  rw [View.mapPos, h]

theorem mapTilt_of_grid {v : View} (h : v.kind = .grid) (t : Pt) : v.mapTilt t = t := by
  rw [View.mapTilt, h]

/-- In GRID a position is out of the area when the reported one lies outside or was brought within the grid (R119). -/
theorem mapGrid_out_iff {c : Settings} {v : View} (hv : ViewOk c v) (p : Pt) :
    (v.mapGrid c p).out = true ↔ ¬ (v.x0 ≤ p.x ∧ p.x ≤ v.x1 ∧ v.y0 ≤ p.y ∧ p.y ≤ v.y1) := by
  obtain ⟨hx0, hx, hx1, hy0, hy, hy1, -⟩ := hv
  simp only [View.mapGrid, Bool.or_eq_true, bne_iff_ne, decide_eq_true_eq, clamp_eq_max_min (hx0.trans (hx.le.trans hx1)),
    clamp_eq_max_min (hy0.trans (hy.le.trans hy1))]
  omega

theorem mapDisplay_out_iff {c : Settings} {v : View} (hv : ViewOk c v) (p : Pt) :
    (v.mapDisplay p).out = true ↔ ¬ (v.x0 ≤ p.x ∧ p.x ≤ v.x1 ∧ v.y0 ≤ p.y ∧ p.y ≤ v.y1) := by
  obtain ⟨-, hx, -, -, hy, -⟩ := hv
  simp only [View.mapDisplay, Bool.or_eq_true, bne_iff_ne, clamp_ne_iff hx.le, clamp_ne_iff hy.le]
  omega

/-- Every point of the area has a pixel of the panel (R117). -/
theorem pixel_mem {c : Settings} {v : View} (hv : ViewOk c v) {a b : Int} (ha : 0 ≤ a ∧ a ≤ v.x1 - v.x0)
    (hb : 0 ≤ b ∧ b ≤ v.y1 - v.y0) :
    0 ≤ (v.pixel a b).x ∧ (v.pixel a b).x < v.width ∧ 0 ≤ (v.pixel a b).y ∧ (v.pixel a b).y < v.height := by
  obtain ⟨-, -, -, -, -, -, hwidth, -, hheight, -⟩ := hv
  have hw : 1 ≤ (v.width : Int) := by omega
  have hh : 1 ≤ (v.height : Int) := by omega
  have along : ∀ {n : Int}, 1 ≤ n → 0 ≤ a * n / (v.x1 - v.x0 + 1) ∧ a * n / (v.x1 - v.x0 + 1) < n :=
    scaled_mem ha.1 (by omega)
  have across : ∀ {n : Int}, 1 ≤ n → 0 ≤ b * n / (v.y1 - v.y0 + 1) ∧ b * n / (v.y1 - v.y0 + 1) < n :=
    scaled_mem hb.1 (by omega)
  have alongBack : ∀ {n : Int}, 1 ≤ n → 0 ≤ (v.x1 - v.x0 + 1 - 1 - a) * n / (v.x1 - v.x0 + 1)
      ∧ (v.x1 - v.x0 + 1 - 1 - a) * n / (v.x1 - v.x0 + 1) < n := scaled_mem (by omega) (by omega)
  have acrossBack : ∀ {n : Int}, 1 ≤ n → 0 ≤ (v.y1 - v.y0 + 1 - 1 - b) * n / (v.y1 - v.y0 + 1)
      ∧ (v.y1 - v.y0 + 1 - 1 - b) * n / (v.y1 - v.y0 + 1) < n := scaled_mem (by omega) (by omega)
  cases horientation : v.orientation <;> simp only [View.pixel, horientation, floorDiv]
  case deg0 => exact and_assoc.1 ⟨along hw, across hh⟩
  case deg90 => exact and_assoc.1 ⟨acrossBack hw, along hh⟩
  case deg180 =>
    have hx := along hw
    have hy := across hh
    omega
  case deg270 => exact and_assoc.1 ⟨across hw, alongBack hh⟩

/-- Settles O59: GRID and DISPLAY by their kind, the pixel by the row of R117 for the orientation. -/
theorem viewMapsPositions : Obligations.ViewMapsPositions := by
  intro c v p hgrid hv m x y a b ea eb
  obtain ⟨hx0, hx, hx1, hy0, hy, hy1, hwidth, -, hheight, -⟩ := id hv
  refine ⟨fun hkind => ?_, fun hkind => ?_⟩
  · have hm : m = v.mapGrid c p := mapPos_of_grid hkind c p
    rw [hm]
    exact ⟨clamp_eq_max_min hgrid.xSpan_pos.le _, clamp_eq_max_min hgrid.ySpan_pos.le _, mapGrid_out_iff hv p,
      mapTilt_of_grid hkind⟩
  · have hm : m = v.mapDisplay p := mapPos_of_display hkind c p
    have hmx : m.x = (v.pixel a b).x := by
      rw [hm, View.mapDisplay, clamp_eq_max_min hx.le, clamp_eq_max_min hy.le]
    have hmy : m.y = (v.pixel a b).y := by
      rw [hm, View.mapDisplay, clamp_eq_max_min hx.le, clamp_eq_max_min hy.le]
    have ha : 0 ≤ a ∧ a ≤ v.x1 - v.x0 := by omega
    have hb : 0 ≤ b ∧ b ≤ v.y1 - v.y0 := by omega
    obtain ⟨hleft, hright, htop, hbottom⟩ := pixel_mem hv ha hb
    rw [hmx, hmy]
    refine ⟨hleft, hright, htop, hbottom, hm ▸ mapDisplay_out_iff hv p, fun ho => ?_, fun ho => ?_, fun ho => ?_,
      fun ho => ?_, fun ho hp hw hh => ?_⟩
    case refine_5 =>
      have hpx : p.x = v.x1 := congrArg Pt.x hp
      have hpy : p.y = v.y1 := congrArg Pt.y hp
      have haLast : a = ea - 1 := by omega
      have hbLast : b = eb - 1 := by omega
      simp only [View.pixel, ho, floorDiv, haLast, hbLast]
      exact ⟨scaled_last (by omega) hw, scaled_last (by omega) hh⟩
    all_goals simp [View.pixel, View.mapTilt, hkind, ho, floorDiv, ea, eb]

end Sys2Proof.Machine
end

section
/-! SUPPORT. What a transaction can do, said once: it is a request, whose effect is an answer or a restart (R121 to R125, R167). -/

namespace Sys2Proof.Machine

/-- `t` is an answer to `code` in port `p`'s store, and a refusal is the answer of `s` itself (R123, R125). -/
def Answers (p : Port) (code : Byte) (s t : State) : Prop :=
  ∃ u r pl, t = u.answer p code r pl ∧ (r = .ok ∨ r = .taken ∨ u = s)

theorem answers_ok {p : Port} {code : Byte} {s : State} (u : State) (pl : List Byte) :
    Answers p code s (u.answer p code .ok pl) := ⟨u, .ok, pl, rfl, .inl rfl⟩

theorem answers_taken {p : Port} {code : Byte} {s : State} (u : State) (pl : List Byte) :
    Answers p code s (u.answer p code .taken pl) := ⟨u, .taken, pl, rfl, .inr (.inl rfl)⟩

theorem answers_unchanged {p : Port} {code : Byte} {s : State} (r : ResultCode) (pl : List Byte) :
    Answers p code s (s.answer p code r pl) := ⟨s, r, pl, rfl, .inr (.inr rfl)⟩

/-- A transaction other than Fetch Response is a request: its effect is an answer, or one of the two restarts. -/
theorem exec_transaction_eq {c : Instr} {p : Port} {code : Byte} (s : State) (hc : transactionCode c = some (p, code))
    (hfetch : ∀ n, c ≠ .fetchResponse p n) : ∃ f, exec c s = request p s f ∧
      (Answers p code s (f s) ∨ (c = .coldRestart p ∧ f s = s.restartCold.drivesZero p)
        ∨ (c = .warmRestart p ∧ f s = s.restartWarm.drivesZero p)) := by
  cases c <;> simp only [transactionCode, Option.some.injEq, Prod.mk.injEq, reduceCtorEq] at hc <;> obtain ⟨rfl, rfl⟩ := hc
  case fetchResponse n => exact absurd rfl (hfetch n)
  all_goals
    simp only [exec, execReadSamples, execSkipToNewest, execReadLatest, execReadStatus, execReadAttention,
      execSetAttentionMask, execSetTick, execAckTick, execSetView, execSetWatermark, execReadTaskResult, execAbortTask,
      execSetPlan, execReadPlan, execSetGrid, execSetTiming, execSetProfile, execSetPressure, execSetTracking,
      execSetMapRow, execSetKeyCombo, execReadMapRow, execReadSettings, execHoldScan, execResumeScan, execCoilSurvey,
      execReadCapture, execPortReset, execColdRestart, execWarmRestart, execUnknownCode, execBadLength]
    refine ⟨_, rfl, ?_⟩
  case coldRestart => exact .inr (.inl ⟨trivial, rfl⟩)
  case warmRestart => exact .inr (.inr ⟨trivial, rfl⟩)
  all_goals refine .inl ?_
  case unknownCode | badLength => exact answers_unchanged ..
  case skipToNewest | readLatest | readStatus | readAttention | ackTick | setWatermark | readTaskResult | readSettings
    | portReset => exact answers_ok ..
  case readSamples | setAttentionMask | setTick | setView | setPressure | setTracking | setMapRow | setKeyCombo
    | readMapRow =>
    split
    · exact answers_unchanged ..
    · exact answers_ok ..
  case abortTask =>
    split
    · exact answers_ok ..
    all_goals exact answers_unchanged ..
  case setPlan =>
    split
    · exact answers_unchanged ..
    · split
      · exact answers_taken ..
      · exact answers_unchanged ..
  case setGrid | setTiming =>
    split
    · exact answers_unchanged ..
    · split
      · exact answers_ok ..
      · exact answers_unchanged ..
  case setProfile =>
    split
    · split
      · exact answers_unchanged ..
      · exact answers_ok ..
    · exact answers_unchanged ..
  case resumeScan =>
    split
    · split
      · exact answers_ok ..
      · exact answers_unchanged ..
    · exact answers_unchanged ..
  case readPlan =>
    split
    · exact answers_ok ..
    · split
      · split
        · exact answers_ok ..
        · exact answers_unchanged ..
      · exact answers_unchanged ..
  case holdScan =>
    split
    · exact answers_unchanged ..
    · split
      case h_1 | h_2 => exact answers_taken ..
      all_goals exact answers_unchanged ..
  case coilSurvey =>
    repeat' split
    case h_2.isFalse.isFalse.isFalse => exact answers_taken ..
    all_goals exact answers_unchanged ..
  case readCapture =>
    repeat' split
    case h_2.isFalse.isFalse.isTrue => exact answers_ok ..
    all_goals exact answers_unchanged ..

/-- The code byte 0 is Fetch Response's (R121). -/
theorem ne_fetchResponse {c : Instr} {p : Port} {code : Byte} (hc : transactionCode c = some (p, code)) (hcode : code ≠ 0)
    (n : Nat) : c ≠ .fetchResponse p n := by
  rintro rfl
  simp only [transactionCode, Option.some.injEq, Prod.mk.injEq, true_and] at hc
  exact hcode hc.symm

/-- In STARTING a transaction other than Fetch Response only drives zeros (R121, R123). -/
theorem exec_transaction_starting {c : Instr} {p : Port} {code : Byte} {s : State}
    (hc : transactionCode c = some (p, code)) (hfetch : ∀ n, c ≠ .fetchResponse p n) (h : s.control.mode = .starting) :
    exec c s = .next (s.drivesZero p) := by
  obtain ⟨f, hf, -⟩ := exec_transaction_eq s hc hfetch
  rw [hf, request_starting h]

/-- Settles O3: every transaction with a code other than Fetch Response's is a request. -/
theorem startingIgnoresTransactions : Obligations.StartingIgnoresTransactions :=
  fun _ _ _ _ _ hc hcode hm => exec_transaction_starting hc (ne_fetchResponse hc hcode) hm

theorem Restarted.store_eq_none {t : State} (h : Restarted t) (p : Port) : (t.port p).store = .none := by
  obtain ⟨-, -, -, -, -, -, hstore, -⟩ := h.ports p
  exact hstore

/-- Settles O4: a refusal is an answer of the state before it, and a restart leaves no answer. -/
theorem refusedRequestChangesNothing : Obligations.RefusedRequestChangesNothing := by
  intro c s t p code a _ hc hcode hm h hstore hok htaken
  obtain ⟨f, hf, heffect⟩ := exec_transaction_eq s hc (ne_fetchResponse hc hcode)
  rw [hf, request_eq hm] at h
  cases h
  have hrest : ∀ u, Restarted u → f s ≠ u.drivesZero p := by
    intro u hu he
    have hnone := (hu.drivesZero p).store_eq_none p
    rw [← he, hstore] at hnone
    cases hnone
  rcases heffect with ⟨u, r, pl, hu, hr⟩ | ⟨-, hcold⟩ | ⟨-, hwarm⟩
  · rw [hu, port_answer, if_pos rfl] at hstore
    cases hstore
    have hus : u = s := (hr.resolve_left hok).resolve_left htaken
    rw [hu, hus]
    rfl
  · exact absurd hcold (hrest _ (restartCold_restarted s))
  · exact absurd hwarm (hrest _ (restartWarm_restarted s))

/-- A transaction other than Fetch Response drives 0 in every byte (R121). -/
theorem exec_transaction_driven {c : Instr} {p : Port} {code : Byte} (s : State) (hc : transactionCode c = some (p, code))
    (hcode : code ≠ 0) : ∃ t, exec c s = .next t ∧ ∀ k, t.driven p k = 0 := by
  have hempty : ∀ t : State, (t.port p).sent = [] → ∀ k, t.driven p k = 0 := fun t h k => by simp [State.driven, h]
  obtain ⟨f, hf, heffect⟩ := exec_transaction_eq s hc (ne_fetchResponse hc hcode)
  by_cases hm : s.control.mode = .starting
  · exact ⟨_, hf.trans (request_starting hm), hempty _ (by simp [State.drivesZero])⟩
  · refine ⟨_, hf.trans (request_eq hm), hempty _ ?_⟩
    rcases heffect with ⟨u, r, pl, hu, -⟩ | ⟨-, hcold⟩ | ⟨-, hwarm⟩
    · simp [hu, port_answer]
    · simp [hcold, State.drivesZero]
    · simp [hwarm, State.drivesZero]

end Sys2Proof.Machine
end

section
/-! SUPPORT. In STARTING both ports stay quiet, through every command (R123, R130, R170, R171). -/

namespace Sys2Proof.Machine

/-! ## What keeps the ports quiet -/

/-- A command that does not enter STARTING keeps the ports quiet when it does so for a part in STARTING. -/
theorem QuietOk.of_leaves {s t : State} (hs : QuietOk s) (hl : Leaves s t)
    (hports : s.control.mode = .starting → ∀ p, (s.port p).Quiet → (t.port p).Quiet) : QuietOk t :=
  fun ht p => hports (hl ht) p (hs (hl ht) p)

/-- Outside STARTING nothing but a restart enters it, so there is nothing to keep quiet. -/
theorem QuietOk.outside {s t : State} (h : s.control.mode ≠ .starting) (hl : Leaves s t) : QuietOk t :=
  fun ht => absurd (hl ht) h

/-- The mode and what the ports hold are kept. -/
theorem QuietOk.eq {s t : State} (hs : QuietOk s) (hmode : t.control.mode = s.control.mode)
    (hports : ∀ p, t.port p = s.port p) : QuietOk t :=
  hs.of_leaves (fun ht => hmode ▸ ht) fun _ p hp => (hports p).symm ▸ hp

theorem QuietOk.setPort {s : State} (hs : QuietOk s) {p : Port} {ps : PortState}
    (h : (s.port p).Quiet → ps.Quiet) : QuietOk (s.setPort p ps) := by
  refine hs.of_leaves (by simp [Leaves]) fun _ q hq => ?_
  rw [port_setPort]
  split
  · next hqp => exact h (hqp ▸ hq)
  · exact hq

theorem QuietOk.drivesZero {s : State} (hs : QuietOk s) (p : Port) : QuietOk (s.drivesZero p) := hs.setPort id

theorem QuietOk.elapse {s : State} (hs : QuietOk s) (d : Nat) : QuietOk (s.elapse d) :=
  hs.eq rfl fun p => by cases p <;> rfl

theorem QuietOk.raiseBothIf {s : State} (hs : QuietOk s) (c : Bool) (e : Event) : QuietOk (s.raiseBothIf c e) :=
  hs.of_leaves (by simp [Leaves]) fun hm _ hp => (raiseBothIf_starting hm c e).symm ▸ hp

/-- With its tick point OFF a port has no tick (R133, R170). -/
theorem QuietOk.tickBoth {s : State} (hs : QuietOk s) {pt : TickPoint} (h : pt ≠ .off) : QuietOk (s.tickBoth pt) := by
  refine hs.of_leaves (by simp [Leaves]) fun hm p hp => ?_
  have hoff : ∀ q, s.tick pt q = s := fun q => by
    obtain ⟨-, -, -, -, -, htick⟩ := hs hm q
    exact tick_of_ne fun e => h (e.symm.trans htick)
  rwa [State.tickBoth, hoff, hoff]

/-- A restart leaves the ports quiet (R170). -/
theorem QuietOk.atStart {t : State} (h : ∀ p, (t.port p).AtStart) : QuietOk t :=
  fun _ p => by rw [h p]; exact ⟨rfl, rfl, rfl, rfl, rfl, rfl⟩

/-! ## Transactions -/

/-- What an abort undoes leaves SCANNING or the mode as it was (R129, R153, R157). -/
theorem undoTask_leaves (s : State) (p : Port) (k : TaskKind) : Leaves s (s.undoTask p k) := by
  cases k with
  | setPlan => simp [Leaves, undoTask_setPlan]
  | holdScan =>
    rw [undoTask_holdScan]
    split <;> simp [Leaves]
  | coilSurvey =>
    rw [undoTask_coilSurvey]
    split <;> simp [Leaves]

/-- The mode that a request other than the two restarts leaves is not STARTING, unless that was the mode (R148). -/
theorem exec_transaction_leaves {c : Instr} {p : Port} {code : Byte} {s t : State}
    (hc : transactionCode c = some (p, code)) (hcold : c ≠ .coldRestart p) (hwarm : c ≠ .warmRestart p)
    (h : exec c s = .next t) : Leaves s t := by
  cases hown : ownPort c with
  | some q =>
    obtain ⟨honly, -⟩ := exec_ownPort hown h
    rw [honly]
    simp [Leaves]
  | none =>
    cases hset : settingsPort c with
    | some q => exact exec_settingsPort_keeps (P := Leaves s) hset h (by simp [Leaves]) (by simp [Leaves]) (by simp [Leaves])
    | none =>
    cases c <;> simp only [ownPort, settingsPort, transactionCode, Option.some.injEq, Prod.mk.injEq, reduceCtorEq]
      at hown hset hc <;> obtain ⟨rfl, rfl⟩ := hc
    case coldRestart => exact absurd rfl hcold
    case warmRestart => exact absurd rfl hwarm
    all_goals
      simp only [exec, execSetView, execAbortTask, execSetPlan, execSetGrid, execHoldScan, execResumeScan, execCoilSurvey,
        execReadCapture, execPortReset] at h
      refine request_keeps (P := Leaves s) h (by simp [Leaves]) ?_
    case abortTask q =>
      split
      · next k _ => exact (undoTask_leaves s q k).trans (by simp [Leaves])
      all_goals simp [Leaves]
    case resumeScan =>
      split
      · split
        · exact (endHeld_leaves s).trans (by simp [Leaves])
        · simp [Leaves]
      · simp [Leaves]
    case portReset q =>
      rw [resetCapture_portReset]
      have hreset : Leaves s (s.portReset q) := by simp [Leaves, State.portReset]
      exact (hreset.trans (resetMode_leaves _ q)).trans (by simp [Leaves])
    all_goals
      repeat' split
      all_goals simp [Leaves]

/-! ## Every command -/

/-- A Fetch Response finds no answer in a quiet store and leaves none (R124). -/
theorem QuietOk.execFetchResponse {p : Port} {clocked : Nat} {s t : State} (hs : QuietOk s)
    (h : execFetchResponse p clocked s = .next t) : QuietOk t := by
  unfold Machine.execFetchResponse at h
  split at h <;> cases h
  · refine hs.of_leaves (by simp [Leaves]) fun hm q hq => ?_
    rw [port_setPort]
    split
    · next hqp =>
      subst hqp
      simpa [PortState.Quiet, State.storeAfterFetch, hm] using hq
    · exact hq
  · exact hs.drivesZero p

/-- A transaction in STARTING drives zeros, outside STARTING it does not enter it, and a restart quiets the ports. -/
theorem QuietOk.execTransaction {c : Instr} {p : Port} {code : Byte} {s t : State} (hs : QuietOk s)
    (hc : transactionCode c = some (p, code)) (h : exec c s = .next t) : QuietOk t := by
  by_cases hfetch : ∃ n, c = .fetchResponse p n
  · obtain ⟨n, rfl⟩ := hfetch
    exact hs.execFetchResponse h
  by_cases hm : s.control.mode = .starting
  · rw [exec_transaction_starting hc (fun n e => hfetch ⟨n, e⟩) hm] at h
    cases h
    exact hs.drivesZero p
  by_cases hcold : c = .coldRestart p
  · subst hcold
    rw [exec, execColdRestart, request_eq hm] at h
    cases h
    exact (QuietOk.atStart (by intro q; cases q <;> rfl : ∀ q, (s.restartCold.port q).AtStart)).drivesZero p
  by_cases hwarm : c = .warmRestart p
  · subst hwarm
    rw [exec, execWarmRestart, request_eq hm] at h
    cases h
    exact (QuietOk.atStart (by intro q; cases q <;> rfl : ∀ q, (s.restartWarm.port q).AtStart)).drivesZero p
  exact .outside hm (exec_transaction_leaves hc hcold hwarm h)

/-- While frames run the part is not in STARTING. -/
theorem ModeOk.not_starting {s : State} (hm : ModeOk s) (h : s.frame.phase ≠ .stopped) : s.control.mode ≠ .starting :=
  (hm.moving h).1.1

/-- Every command keeps the ports quiet throughout STARTING. -/
theorem QuietOk.exec {c : Instr} {s t : State} (hm : ModeOk s) (hs : QuietOk s) (h : exec c s = .next t) : QuietOk t := by
  cases hc : transactionCode c with
  | some pc => exact hs.execTransaction hc h
  | none =>
    cases c <;> simp only [transactionCode, reduceCtorEq] at hc
    case answerReady p =>
      cases h
      exact hs.setPort fun hq => by simp_all [PortState.Quiet, Store.formed]
    case scheduledFrameStart =>
      rcases execScheduledFrameStart_next h with rfl | ⟨hphase, rfl⟩
      · exact hs
      · exact .outside (hm.not_starting hphase) (frameStart_leaves (s.untilFrame _))
    case midPoint =>
      rcases execMidPoint_next h with rfl | ⟨u, rfl, rfl⟩
      · exact hs
      · refine QuietOk.tickBoth ?_ (by decide)
        exact hs.eq (by simp) (by simp)
    case dsync =>
      rcases execDsync_next h with rfl | ⟨hmode, -, rfl⟩
      · exact hs
      · exact .outside hmode (dsyncPulse_leaves s)
    case syncTimerExpiry =>
      rcases execSyncTimerExpiry_next h with rfl | ⟨d, -, rfl⟩
      · exact hs
      · refine QuietOk.raiseBothIf ?_ true .syncLost
        exact hs.eq (by simp) (by simp)
    case slotBegin =>
      rcases execSlotBegin_next h with rfl | ⟨k, hphase, rfl⟩
      · exact hs
      · exact .outside (hm.not_starting (by simp [hphase])) (beginSlot_leaves s k)
    case driveBusyFall =>
      rcases execDriveBusyFall_next h with rfl | ⟨k, j, -, rfl⟩
      all_goals exact hs.eq rfl fun p => by cases p <;> rfl
    case driveBusyRise =>
      rcases execDriveBusyRise_next h with rfl | ⟨k, hrun, rfl⟩
      · exact hs.eq rfl fun p => by cases p <;> rfl
      · exact .outside (hm.not_starting (hm.running hrun)) (endSlot_leaves (s.withBusy true) k .cut)
    case slipExpiry =>
      rcases execSlipExpiry_next h with rfl | ⟨k, d, hrun, rfl⟩
      · exact hs
      · exact .outside (hm.not_starting (hm.running hrun)) (endSlot_leaves (s.untilFrame d) k .skipped)
    case excitationEnd =>
      rcases execExcitationEnd_next h with rfl | ⟨u, run, d, -, rfl, rfl⟩
      · exact hs
      · exact hs.eq (by simp) (by simp)
    case listenEnd r =>
      rcases execListenEnd_next h with rfl | ⟨k, j, d, hrun, rfl⟩
      · exact hs
      · have hhanded : Leaves s ((s.untilFrame d).handOn j r) := by simp [Leaves]
        exact .outside (hm.not_starting (hm.running hrun)) (hhanded.trans (endSlot_leaves _ k .done))
    case autoResumeExpiry =>
      rcases execAutoResumeExpiry_next h with rfl | ⟨d, n, hheld, rfl⟩
      · exact hs
      · exact .outside (by simp [hheld]) (endHeld_leaves (s.until d n))
    case startingEnd =>
      rcases execStartingEnd_next h with rfl | ⟨d, -, rfl⟩
      · exact hs
      · exact .outside (by simp [State.scanBegun]) (frameStart_leaves _)
    case keySample =>
      rcases execKeySample_next h with rfl | ⟨u, keys, changed, rfl, rfl⟩
      · exact hs
      · refine QuietOk.raiseBothIf ?_ changed .keyChange
        exact hs.eq (by simp) (by simp)
    case keyRestartHoldExpiry =>
      rcases execKeyRestartHoldExpiry_next h with rfl | ⟨u, d, rfl, rfl⟩
      · exact hs
      · exact .atStart fun q => by cases q <;> rfl
    case powerOn | resetNLow | resetNRise | powerFail =>
      rcases exec_power_next (by simp) h with rfl | ⟨u, rfl | rfl⟩
      · exact hs.eq rfl fun p => by cases p <;> rfl
      all_goals exact .atStart fun q => by cases q <;> rfl

/-- Settles O14: with `ModeOk` before it, each command keeps `QuietOk`, and so does the passing of time. -/
theorem stepKeepsStartingQuiet : Obligations.StepKeepsStartingQuiet := by
  intro s t hm hs h
  rcases step_next h with ⟨-, rfl⟩ | ⟨c, rest, -, hc⟩
  · exact hs.elapse 1
  · exact QuietOk.exec (s := { s with pending := rest }) (hm.same (by simp +contextual [ModeSame]))
      (hs.eq rfl fun p => by cases p <;> rfl) hc

end Sys2Proof.Machine
end

section
/-! SUPPORT. The bytes of a transaction: the checks in their order, and every operand read back (R121, R122, R175, R176). -/

namespace Sys2Proof.Machine

/-! ## The checks (R121, R122) -/

/-- A request with a known code, its length byte and its argument bytes; the bytes after them are discarded (R121). -/
theorem decodeTransaction_known {p : Port} {code len : Byte} {args : List Byte} (extra : List Byte) (hcode : code ≠ 0)
    (hn : requestLength code = some args.length) (hlen : len.toNat = args.length) :
    decodeTransaction p (code :: len :: (args ++ extra)) = some (decodeRequest p code args) := by
  rw [decodeTransaction, if_neg hcode]
  simp [hn, hlen]

/-- Settles O6: the code, the length byte and the argument bytes are checked in this order. -/
theorem transactionChecks : Obligations.TransactionChecks := by
  intro p code hcode
  refine ⟨rfl, fun hunknown rest => ?_, fun n hn => ⟨?_, fun len args hlen => ?_, fun len args _ hshort => ?_,
    fun len args extra hlen hargs => ?_⟩⟩
  · rw [decodeTransaction, if_neg hcode, hunknown]
  · rw [decodeTransaction, if_neg hcode, hn]
  · rw [decodeTransaction, if_neg hcode, hn]
    simp [hlen]
  · rw [decodeTransaction, if_neg hcode, hn]
    simp [hshort]
  · subst hargs
    exact decodeTransaction_known extra hcode hn hlen

/-! ## The operands (R175, R176) -/

/-- A length byte can state every request's argument length (R175). -/
theorem requestLength_lt {code : Byte} {n : Nat} (h : requestLength code = some n) : n < 256 := by
  unfold requestLength at h
  split at h <;> simp at h <;> omega

/-- A request is read back from its bytes as what its argument bytes spell. -/
theorem decodeTransaction_requestBytes {p : Port} {code : Byte} {args : List Byte} (hcode : code ≠ 0)
    (hn : requestLength code = some args.length) :
    decodeTransaction p (requestBytes code args) = some (decodeRequest p code args) := by
  have hlen : (BitVec.ofNat 8 args.length).toNat = args.length := Nat.mod_eq_of_lt (requestLength_lt hn)
  simpa [requestBytes] using decodeTransaction_known (p := p) [] hcode hn hlen

/-- A two-byte field is its high byte before its low byte (R175). -/
theorem extract_append (h : Half) : h.extractLsb' 8 8 ++ h.extractLsb' 0 8 = h := by
  rw [BitVec.extractLsb'_append_extractLsb'_eq_extractLsb' (by rfl)]
  simp

/-- A slot record is read back from its eleven bytes at the front (R176). -/
theorem argSlot_bytes (r : SlotRecord) (l : List Byte) : argSlot (r.bytes ++ l) 0 = r := by
  cases r
  simp [argSlot, SlotRecord.bytes, halfBytes, argHalf, argByte, extract_append]

theorem argSlot_skip (r : SlotRecord) (l : List Byte) (i : Nat) : argSlot (r.bytes ++ l) (i + 11) = argSlot l i := rfl

/-- A map node is read back from its four bytes at the front (R146). -/
theorem argNode_bytes (n : NodeArgs) (l : List Byte) : argNode (n.bytes ++ l) 0 = n := by
  cases n
  simp [argNode, NodeArgs.bytes, halfBytes, argHalf, argByte, extract_append]

theorem argNode_skip (n : NodeArgs) (l : List Byte) (i : Nat) : argNode (n.bytes ++ l) (i + 4) = argNode l i := rfl

theorem argNode_cons (b : Byte) (l : List Byte) (i : Nat) : argNode (b :: l) (i + 1) = argNode l i := rfl

theorem plan_cases (plan : Plan) : ∃ a b c d e f g h, plan = #v[a, b, c, d, e, f, g, h] :=
  ⟨plan[0], plan[1], plan[2], plan[3], plan[4], plan[5], plan[6], plan[7], by ext i hi; interval_cases i <;> rfl⟩

theorem row_cases (nodes : Vector NodeArgs 9) : ∃ a b c d e f g h i, nodes = #v[a, b, c, d, e, f, g, h, i] :=
  ⟨nodes[0], nodes[1], nodes[2], nodes[3], nodes[4], nodes[5], nodes[6], nodes[7], nodes[8],
    by ext i hi; interval_cases i <;> rfl⟩

/-- The records of a plan are read back in their order (R22, R176). -/
theorem decodeRequest_setPlan (p : Port) (plan : Plan) :
    decodeRequest p 0x38 (plan.toList.flatMap SlotRecord.bytes) = .setPlan p plan := by
  obtain ⟨a, b, c, d, e, f, g, h, rfl⟩ := plan_cases plan
  simpa [decodeRequest, argSlot_skip, argSlot_bytes] using argSlot_bytes h []

/-- The nodes of a map row are read back in their order, behind the row's number (R146). -/
theorem decodeRequest_setMapRow (p : Port) (row : Byte) (nodes : Vector NodeArgs 9) :
    decodeRequest p 0x45 (row :: nodes.toList.flatMap NodeArgs.bytes) = .setMapRow p row nodes := by
  obtain ⟨a, b, c, d, e, f, g, h, i, rfl⟩ := row_cases nodes
  simpa [decodeRequest, argByte, argNode_cons, argNode_skip, argNode_bytes] using argNode_bytes i []

/-- Settles O5: a request by its argument bytes, field by field; the transactions that are no request by their checks. -/
theorem decodeOfEncode : Obligations.DecodeOfEncode := by
  intro c p code hwf hc
  cases c <;> simp only [transactionCode, Option.some.injEq, Prod.mk.injEq, reduceCtorEq] at hc <;> obtain ⟨rfl, rfl⟩ := hc
  case fetchResponse => simp [encodeTransaction, decodeTransaction]
  case unknownCode q code =>
    simp only [Instr.wf, Bool.and_eq_true, bne_iff_ne, ne_eq, Option.isNone_iff_eq_none] at hwf
    obtain ⟨hcode, hunknown⟩ := hwf
    rw [encodeTransaction, decodeTransaction, if_neg hcode, hunknown]
  case badLength q code =>
    obtain ⟨n, hn⟩ := Option.isSome_iff_exists.1 hwf
    have hcode : code ≠ 0 := by rintro rfl; cases hn
    rw [encodeTransaction, decodeTransaction, if_neg hcode, hn]
  case setPlan q plan =>
    obtain ⟨a, b, c, d, e, f, g, h, hplan⟩ := plan_cases plan
    rw [encodeTransaction, decodeTransaction_requestBytes (by decide) (by rw [hplan]; rfl), decodeRequest_setPlan]
  case setMapRow q row nodes =>
    obtain ⟨a, b, c, d, e, f, g, h, i, hnodes⟩ := row_cases nodes
    rw [encodeTransaction, decodeTransaction_requestBytes (by decide) (by rw [hnodes]; rfl), decodeRequest_setMapRow]
  all_goals
    rw [encodeTransaction, decodeTransaction_requestBytes (by decide) rfl]
    simp [decodeRequest, argByte, argHalf, halfBytes, extract_append]

end Sys2Proof.Machine
end

section
/-! SUPPORT. The attention line of a port (R130, R135, R181). -/

namespace Sys2Proof.Machine

/-- Each of the fourteen low bits of an event set is an event's (R181). -/
theorem exists_event_bit {i : Nat} (h : i < 14) : ∃ e : Event, e.bit = i := by
  have hall : ∀ k : Fin 14, ∃ e ∈ ([.taskDone, .samplesWaiting, .overrun, .toolEnter, .toolLeave, .codeChange,
      .identityKnown, .keyChange, .syncLost, .syncRegained, .settingsChanged, .modeChanged, .tickMissed,
      .restarted] : List Event), e.bit = k.val := by decide
  obtain ⟨e, -, he⟩ := hall ⟨i, h⟩
  exact ⟨e, he⟩

/-- A pending set meets a mask of events exactly in an event that is pending and enabled (R131, R135). -/
theorem and_mask_ne_zero_iff {events mask : BitVec 16} (h : mask.toNat < 16384) :
    events &&& mask ≠ 0 ↔ ∃ e : Event, e.isIn events = true ∧ e.isIn mask = true := by
  constructor
  · intro hne
    obtain ⟨i, hi⟩ : ∃ i, (events &&& mask).getLsbD i = true := by
      by_contra hnone
      exact hne (BitVec.eq_of_getLsbD_eq fun i _ => by simpa using not_exists.1 hnone i)
    rw [BitVec.getLsbD_and, Bool.and_eq_true] at hi
    have hlow : i < 14 := by
      by_contra hhigh
      have hpow : 2 ^ 14 ≤ 2 ^ i := Nat.pow_le_pow_right (by decide) (by omega)
      have hclear : mask.getLsbD i = false := Nat.testBit_lt_two_pow (h.trans_le hpow)
      simp [hclear] at hi
    obtain ⟨e, rfl⟩ := exists_event_bit hlow
    exact ⟨e, hi⟩
  · rintro ⟨e, hevent, hmask⟩ hzero
    have hbit : (events &&& mask).getLsbD e.bit = true := by
      rw [BitVec.getLsbD_and]
      exact Bool.and_eq_true_iff.2 ⟨hevent, hmask⟩
    simp [hzero] at hbit

/-- Settles O24: the mask of a port names events alone, so a bit that meets it is an event's. -/
theorem attentionLineFollowsItsPort : Obligations.AttentionLineFollowsItsPort := by
  intro p s hs
  simp only [State.attention, PortState.attention, Bool.and_eq_true, Bool.or_eq_true, bne_iff_ne,
    and_mask_ne_zero_iff (hs p).maskEvents]

end Sys2Proof.Machine
end

section
/-! SUPPORT. HOLD_SCAN, COIL_SURVEY and the answer store (R121 to R126, R149, R154, R175, R178). -/

namespace Sys2Proof.Machine

/-! ## HOLD_SCAN (R126, R149) -/

theorem isRunning_of_not_idle {x : TaskSlot} (h : ¬ ∀ k, x ≠ .running k) : x.isRunning = true := by
  obtain ⟨k, hk⟩ : ∃ k, x = .running k := by simpa using h
  exact isRunning_of_running hk

theorem exec_holdScan_busy {p : Port} {delay : Byte} {s : State} (h : s.control.mode ≠ .starting)
    (hbusy : ¬ ∀ k, (s.port p).slot ≠ .running k) : exec (.holdScan p delay) s = .next (s.answer p 0x50 .busy []) := by
  simp only [exec, execHoldScan, request_eq h, isRunning_of_not_idle hbusy, if_true]

/-- A taken Hold Scan leaves HOLDING with its port as owner and its task running, and ModeChanged at both ports (R149). -/
theorem beginHold_answer (s : State) (p : Port) (delay : Byte) : (s.beginHold p delay).answer p 0x50 .taken [] =
    ({ s with control := { s.control with
        mode := .holding, owner := some p, survey := none, resumeDelay := delay.toNat } }.setPort p.other
      { s.port p.other with events := Event.addTo .modeChanged (s.port p.other).events }).setPort p
      { s.port p with
        slot := .running .holdScan
        events := Event.addTo .modeChanged (s.port p).events
        sent := []
        store := forming 0x50 .taken [] } := by
  cases p <;> rfl

theorem cancelWaiting_of_none {s : State} (h : s.control.reservation = none) : s.cancelWaiting = s := by
  simp only [State.cancelWaiting, h]

/-- The survey of port `q` is cancelled: its task completes there and no survey waits (R149). -/
def State.surveyCancelled (s : State) (q : Port) : State :=
  { s with control := { s.control with reservation := none } }.setPort q { s.port q with
    slot := .completed .coilSurvey .cancelled
    events := Event.addTo .taskDone (s.port q).events }

theorem cancelWaiting_of_some {s : State} {r : Reservation} (hs : TasksOk s) (hmode : s.control.mode ≠ .starting)
    (h : s.control.reservation = some r) : s.cancelWaiting = s.surveyCancelled r.port := by
  have hrun : (s.port r.port).slot = .running .coilSurvey := (hs.coilSurvey r.port).2 (.inl (by simp [h]))
  have hdropped : (s.dropReservation.port r.port).slot = .running .coilSurvey := by rw [dropReservation_port, hrun]
  simp only [State.cancelWaiting, h]
  rw [completeTask_eq (s := s.dropReservation) _ hmode hdropped, dropReservation_port]
  rfl

theorem cancelActive_of_owner {s : State} {q : Port} (hs : TasksOk s) (hmode : s.control.mode = .survey)
    (hres : s.control.reservation = none) (h : s.control.owner = some q) : s.cancelActive = s.surveyCancelled q := by
  have hrun : (s.port q).slot = .running .coilSurvey := (hs.coilSurvey q).2 (.inr ⟨hmode, h⟩)
  have hnone : { s with control := { s.control with reservation := none } } = s := by rw [← hres]
  rw [State.surveyCancelled, hnone]
  simp only [State.cancelActive, h]
  exact completeTask_eq _ (by simp [hmode]) hrun

/-- A Hold Scan from a port with no running task (R149). -/
theorem exec_holdScan_idle {p : Port} {delay : Byte} {s : State} (h : s.control.mode ≠ .starting)
    (hidle : ∀ k, (s.port p).slot ≠ .running k) :
    (s.control.mode = .scanning →
        exec (.holdScan p delay) s = .next ((s.cancelWaiting.beginHold p delay).answer p 0x50 .taken []))
    ∧ (s.control.mode = .survey →
        exec (.holdScan p delay) s = .next ((s.cancelActive.beginHold p delay).answer p 0x50 .taken []))
    ∧ (s.control.mode = .holding ∨ s.control.mode = .held →
        exec (.holdScan p delay) s = .next (s.answer p 0x50 .rejected [])) := by
  simp only [exec, execHoldScan, request_eq h, if_neg (not_isRunning hidle)]
  refine ⟨fun hm => ?_, fun hm => ?_, fun hm => ?_⟩
  · simp only [hm]
  · simp only [hm]
  · rcases hm with hm | hm <;> simp only [hm]

/-- A survey that waits or is active while port `p` has no running task is the other port's (R126, R149). -/
theorem holdScan_cancels {p : Port} {s : State} (hm : ModeOk s) (hs : TasksOk s) (hidle : ∀ k, (s.port p).slot ≠ .running k) :
    (∀ r, s.control.mode = .scanning → s.control.reservation = some r → s.cancelWaiting = s.surveyCancelled p.other)
    ∧ (s.control.mode = .survey → s.cancelActive = s.surveyCancelled p.other) := by
  have hother : ∀ q, (s.port q).slot = .running .coilSurvey → q = p.other := fun q hq =>
    eq_other_of_ne fun hp => hidle .coilSurvey (hp ▸ hq)
  refine ⟨fun r hmode hr => ?_, fun hmode => ?_⟩
  · rw [cancelWaiting_of_some hs (by simp [hmode]) hr, hother r.port ((hs.coilSurvey r.port).2 (.inl (by simp [hr])))]
  · obtain ⟨q, hq⟩ := Option.isSome_iff_exists.1 (hm.owner.trans (by rw [hmode]; rfl))
    rw [cancelActive_of_owner hs hmode (hm.reservation_eq_none (by simp [hmode])) hq,
      hother q ((hs.coilSurvey q).2 (.inr ⟨hmode, hq⟩))]

/-- Settles O33: the mode decides, and what survey there is beside an idle port is the other port's. -/
theorem holdScanByMode : Obligations.HoldScanByMode := by
  intro p delay s hm hs hstarting idle held mine
  have hexec := fun hidle : idle => exec_holdScan_idle (delay := delay) hstarting hidle
  have hcancels := fun hidle : idle => holdScan_cancels hm hs hidle
  refine ⟨exec_holdScan_busy hstarting, fun hidle => ?_, fun hidle hmode hnone => ?_, fun hidle hmode => ?_⟩
  · obtain ⟨-, -, hrejected⟩ := hexec hidle
    exact hrejected
  · obtain ⟨hscanning, -, -⟩ := hexec hidle
    rw [hscanning hmode, cancelWaiting_of_none hnone, beginHold_answer]
    simp only [held, mine, hnone]
  · have htaken : exec (.holdScan p delay) s
        = .next (((s.surveyCancelled p.other).beginHold p delay).answer p 0x50 .taken []) := by
      obtain ⟨hscanning, hsurvey, -⟩ := hexec hidle
      obtain ⟨hwaits, hactive⟩ := hcancels hidle
      rcases hmode with ⟨hmode, hsome⟩ | hmode
      · obtain ⟨r, hr⟩ := Option.ne_none_iff_exists'.1 hsome
        rw [hscanning hmode, hwaits r hmode hr]
      · rw [hsurvey hmode, hactive hmode]
    rw [htaken, beginHold_answer]
    cases p <;> rfl

/-! ## COIL_SURVEY (R126, R154) -/

/-- The arguments that Coil Survey takes: BASELINE with any Profile, recorded as 0, or RESPONSE with one of the four (R154). -/
theorem surveyOf_eq_some {kind profile : Byte} {f : Fin 4} (h : kind = 0 ∨ (kind = 1 ∧ profile.toNat < 4))
    (hf : f.val = if kind = 0 then 0 else profile.toNat) :
    surveyOf kind profile = some (if kind = 0 then .baseline else .response, f) := by
  by_cases hkind : kind = 0
  · have hzero : f = 0 := Fin.ext (by simpa [hkind] using hf)
    simp [surveyOf, surveyKindOf, hkind, hzero]
  · obtain ⟨hone, -⟩ := h.resolve_left hkind
    have hindex : indexOf 4 profile = some f := indexOf_eq_some (by rw [hf, if_neg hkind])
    simp [surveyOf, surveyKindOf, hone, hindex]

theorem surveyOf_eq_none {kind profile : Byte} (h : ¬ (kind = 0 ∨ (kind = 1 ∧ profile.toNat < 4))) :
    surveyOf kind profile = none := by
  obtain ⟨hzero, hone⟩ := not_or.1 h
  by_cases hkind : kind = 1
  · have hindex : indexOf 4 profile = none := indexOf_eq_none (not_lt.1 fun hlt => hone ⟨hkind, hlt⟩)
    simp [surveyOf, surveyKindOf, hkind, hindex]
  · simp only [surveyOf, surveyKindOf, if_neg hzero, if_neg hkind]

/-- Settles O35: the slot, the arguments, the mode with its reservation and the capture are checked in this order. -/
theorem coilSurveyByState : Obligations.CoilSurveyByState := by
  intro p kind profile s hstarting idle allowed answers
  have hvalue : allowed → ∃ v, surveyOf kind profile = some v := by
    intro ha
    have hlt : (if kind = 0 then 0 else profile.toNat) < 4 := by
      split
      · decide
      · next hkind => exact (ha.resolve_left hkind).2
    exact ⟨_, surveyOf_eq_some (f := ⟨_, hlt⟩) ha rfl⟩
  simp only [answers, exec, execCoilSurvey, request_eq hstarting]
  refine ⟨fun hbusy => ?_, fun hidle ha => ?_, fun hidle ha hmode => ?_, fun hidle ha hmode hres hcapture => ?_,
    fun f hidle ha hf hmode hres hcapture => ?_⟩
  · rw [if_pos (isRunning_of_not_idle hbusy)]
    rfl
  · rw [if_neg (not_isRunning hidle), surveyOf_eq_none ha]
    rfl
  · obtain ⟨v, hv⟩ := hvalue ha
    rw [if_neg (not_isRunning hidle), hv]
    by_cases hscan : s.control.mode = .scanning
    · have hres := Option.isSome_iff_ne_none.2 (hmode.resolve_left (not_not.2 hscan))
      simp only [ne_eq, hscan, not_true_eq_false, if_false, hres, if_true]
      rfl
    · simp only [ne_eq, hscan, not_false_eq_true, if_true]
      rfl
  · obtain ⟨v, hv⟩ := hvalue ha
    rw [if_neg (not_isRunning hidle), hv]
    simp only [ne_eq, hmode, not_true_eq_false, if_false, hres, Option.isSome_none, Bool.false_eq_true,
      Option.isSome_iff_ne_none.2 hcapture, if_true]
    rfl
  · rw [if_neg (not_isRunning hidle), surveyOf_eq_some ha hf]
    simp only [ne_eq, hmode, not_true_eq_false, if_false, hres, hcapture, Option.isSome_none, Bool.false_eq_true]
    cases p <;> rfl

/-! ## The answer store (R121 to R124, R178) -/

/-- A Fetch Response with power sends its frame and leaves the store that `storeAfterFetch` says (R124). -/
theorem exec_fetchResponse {p : Port} {clocked : Nat} {s : State} {frame : List Byte} {store : Store}
    (hpower : s.pins.power = true) (hframe : s.responseFrame p = frame) (hstore : s.storeAfterFetch p clocked = store) :
    ∃ sent, exec (.fetchResponse p clocked) s = .next (s.setPort p { s.port p with store, sent })
      ∧ sent.length = clocked ∧ ∀ k, k < clocked → sent[k]? = some (frame.getD k 0) := by
  refine ⟨clockedBytes frame clocked, ?_, clockedBytes_spec frame clocked⟩
  rw [exec, execFetchResponse, if_pos hpower, hframe, hstore]

theorem frameBytes_length (status : Nat) (code : Byte) (result : Nat) (payload : List Byte) :
    (frameBytes status code result payload).length = 5 + payload.length := by
  simp [frameBytes, u8, u16]; omega

/-- Only an answer that is being formed becomes READY (R123). -/
theorem formed_of_not_notReady {x : Store} (h : ∀ a, x ≠ .notReady a) : x.formed = x := by
  cases x with
  | notReady a => exact absurd rfl (h a)
  | none | ready => rfl

/-- Settles O38: Fetch Response by the mode and the store, every other transaction by `exec_transaction_driven`. -/
theorem answerStore : Obligations.AnswerStore := by
  intro p clocked code s sends
  refine ⟨fun hpower hm => ?_, fun hpower hm hstore => ?_, fun a hpower hm hstore => ?_, fun a hpower hm hstore => ?_,
    fun hpower => ?_, fun c r _ hc hr => exec_transaction_driven s hc hr, fun hm => ⟨?_, ?_⟩, fun a hstore => ?_,
    fun hstore => ?_⟩
  · exact exec_fetchResponse hpower (by simp [State.responseFrame, hm]; rfl) (by simp [State.storeAfterFetch, hm])
  · exact exec_fetchResponse hpower (by simp [State.responseFrame, hm, hstore]; rfl)
      (by simp [State.storeAfterFetch, hm, hstore])
  · exact exec_fetchResponse hpower (by simp [State.responseFrame, hm, hstore]; rfl)
      (by simp [State.storeAfterFetch, hm, hstore])
  · exact exec_fetchResponse hpower (by simp [State.responseFrame, hm, hstore]; rfl)
      (by simp [State.storeAfterFetch, hm, hstore, answerFrame, frameBytes_length])
  · simp [exec, execFetchResponse, hpower, State.drivesZero]
  · simp only [exec, execUnknownCode, request_eq hm]; rfl
  · simp only [exec, execBadLength, request_eq hm]; rfl
  · simp only [exec, execAnswerReady, hstore, Store.formed]
  · rw [exec, execAnswerReady, formed_of_not_notReady hstore, setPort_port]

end Sys2Proof.Machine
end

section
/-! SUPPORT. A taken settings request while frames run: it waits (R139, R140). -/

namespace Sys2Proof.Machine

/-- Outside HELD the changes wait and nothing is applied (R140). -/
theorem takeSetting_of_not_held {s : State} (h : s.control.mode ≠ .held) (w : Waiting) :
    s.takeSetting w = { s with waiting := w } := if_neg h

/-- What a taken settings request leaves outside HELD: its change waiting, and the answer with the byte 1 and the
SettingsEpoch unchanged (R139, R140). -/
theorem changeSetting_of_not_held {s : State} (h : s.control.mode ≠ .held) (p : Port) (code : Byte) (w : Waiting)
    (fields : List Byte) : s.changeSetting p code w fields =
      { s with waiting := w }.answer p code .ok (fields ++ [1] ++ u16 s.epoch.toNat) := by
  have hbyte : appliedByte (s.control.mode == .held) = [1] := by rw [beq_eq_false_iff_ne.2 h]; rfl
  simp only [State.changeSetting, takeSetting_of_not_held h, hbyte]

/-- Settles O30: each request's arm at the branch that takes it, then `changeSetting_of_not_held`. -/
theorem settingsWaitWhileScanning : Obligations.SettingsWaitWhileScanning := by
  intro p s hstarting hheld waits
  have taken : ∀ {c : Instr} {code : Byte} {w : Waiting} {fields : List Byte},
      exec c s = .next (s.changeSetting p code w fields) → waits c code w fields := by
    intro c code w fields h
    rw [changeSetting_of_not_held hheld] at h
    exact h.trans (by cases p <;> rfl)
  refine ⟨fun fp m r t ht hactive hpending => taken ?_, fun i k a f hi hf hdiffer => taken ?_, fun a k ha => taken ?_,
    fun a k ha => taken ?_, fun row j v hrow => taken ?_, fun combo k hk => taken ?_⟩
  · simp only [exec, execSetTiming, request_eq hstarting, ht, if_pos (periodFits_iff.2 ⟨hactive, hpending⟩)]
  · simp only [exec, execSetProfile, request_eq hstarting, indexOf_eq_some hi, hf, if_neg (not_tipFreqClash hdiffer)]
  · simp only [exec, execSetPressure, request_eq hstarting, ha]
  · simp only [exec, execSetTracking, request_eq hstarting, ha]
  · simp only [exec, execSetMapRow, request_eq hstarting, indexOf_eq_some hrow]
  · simp only [exec, execSetKeyCombo, request_eq hstarting, hk]

end Sys2Proof.Machine
end

section
/-! SUPPORT. A survey's bands as they are stored, and READ_CAPTURE (R3, R4, R155, R156, R158, R159). -/

namespace Sys2Proof.Machine

/-! ## The bands of a survey (R3, R156) -/

section
variable {count b : Nat} {stored bank : List Nat}

/-- What a band stores is the channels of its bank that belong to a coil (R3, R4, R156). -/
theorem storedAmps_eq_take (hlen : bank.length = 12) (hscale : InScale bank) :
    storedAmps count b bank = bank.take (count - 12 * b) := by
  rw [storedAmps, hscale.bandAmps, Config.bandCoils]
  refine List.ext_getElem (by simp [hlen]) fun i hi hi' => ?_
  obtain ⟨hcoil, hbank⟩ : i < count - 12 * b ∧ i < bank.length := by simpa using hi'
  have hexists : 12 * b + i < count := by omega
  simp [hexists, hbank]

/-- The last band of an axis is the one that reaches its last coil (R3). -/
theorem succ_eq_bands_iff (hband : 12 * b < count) : b + 1 = bands count ↔ count ≤ 12 * (b + 1) := by
  rw [bands, Config.bandCoils]
  omega

/-- Behind the bands before it, a coil's entry is its channel of the band (R156, log entry 17). -/
theorem getElem?_append_band (hstored : stored.length = 12 * b) {i : Nat} (hlo : 12 * b ≤ i)
    (hhi : i < min (12 * b + 12) count) : (stored ++ bank.take (count - 12 * b))[i]? = bank[i - 12 * b]? := by
  rw [List.getElem?_append_right (by omega), hstored, List.getElem?_take_of_lt (by omega)]

/-- After a band the axis holds an entry of every coil up to the band's end (R156). -/
theorem length_append_band (hlen : bank.length = 12) (hstored : stored.length = 12 * b) (hband : 12 * b < count) :
    (stored ++ bank.take (count - 12 * b)).length = min count (12 * (b + 1)) := by
  rw [List.length_append, List.length_take, hlen, hstored]
  omega

/-- One axis of a DONE window: its band is stored, and its cursor moves on unless the band was the last (R156). -/
theorem storedAmps_and_cursor (hlen : bank.length = 12) (hscale : InScale bank) (hstored : stored.length = 12 * b)
    (hband : 12 * b < count) :
    let after := stored ++ storedAmps count b bank
    let last := b + 1 == bands count
    let next := if last then b else b + 1
    after = stored ++ bank.take (count - 12 * b)
    ∧ (∀ i, 12 * b ≤ i → i < min (12 * b + 12) count → after[i]? = bank[i - 12 * b]?)
    ∧ (12 * (b + 1) < count → last = false ∧ next = b + 1 ∧ after.length = 12 * next)
    ∧ (count ≤ 12 * (b + 1) → last = true ∧ next = b ∧ after.length = count) := by
  intro after last next
  have hafter : after = stored ++ bank.take (count - 12 * b) := by simp only [after, storedAmps_eq_take hlen hscale]
  have hlength := length_append_band hlen hstored hband
  rw [hafter]
  refine ⟨rfl, fun i => getElem?_append_band hstored, fun hmore => ?_, fun hend => ?_⟩
  · have hlast : last = false := beq_eq_false_iff_ne.2 fun h => by have := (succ_eq_bands_iff hband).1 h; omega
    have hnext : next = b + 1 := by simp [next, hlast]
    exact ⟨hlast, hnext, by rw [hlength, hnext, min_eq_right hmore.le]⟩
  · have hlast : last = true := beq_iff_eq.2 ((succ_eq_bands_iff hband).2 hend)
    have hnext : next = b := by simp [next, hlast]
    exact ⟨hlast, hnext, by rw [hlength, min_eq_left hend]⟩

end

/-- Settles O49: an axis that is done keeps its entries, any other stores its band by `storedAmps_and_cursor`. -/
theorem surveyStoresBands : Obligations.SurveyStoresBands := by
  intro v c x y hlx hly hx hy u
  refine ⟨fun hdone => ?_, fun hdone hstored hband => ?_, fun hdone => ?_, fun hdone hstored hband => ?_, rfl, rfl, rfl⟩
  · simp [u, Survey.store, hdone]
  · simp only [u, Survey.store, hdone, Bool.false_or]
    exact storedAmps_and_cursor hlx hx hstored hband
  · simp [u, Survey.store, hdone]
  · simp only [u, Survey.store, hdone, Bool.false_or]
    exact storedAmps_and_cursor hly hy hstored hband

/-! ## READ_CAPTURE (R158, R159) -/

section
variable {p : Port} {offset count unlock : Byte} {s : State}

/-- Arguments out of range are refused before the buffer is looked at (R159). -/
theorem exec_readCapture_badArguments (hm : s.control.mode ≠ .starting)
    (hbad : ¬ (unlock.toNat ≤ 1 ∧ offset.toNat ≤ 155 ∧ count ≠ 0)) :
    exec (.readCapture p offset count unlock) s = .next (s.answer p 0x53 .badValue []) := by
  simp only [exec, execReadCapture, request_eq hm]
  cases hflag : flagOf unlock with
  | none => rfl
  | some release =>
    obtain ⟨hunlock, -⟩ := flagOf_eq_some_iff.1 hflag
    have hrange : 155 < offset.toNat ∨ count = 0 := by
      by_contra h
      obtain ⟨hoffset, hcount⟩ := not_or.1 h
      exact hbad ⟨hunlock, not_lt.1 hoffset, hcount⟩
    exact congrArg _ (if_pos hrange)

/-- With arguments in range the buffer decides: empty, locked by the other port, too short, or read (R158, R159). -/
theorem exec_readCapture_allowed (hm : s.control.mode ≠ .starting)
    (hallowed : unlock.toNat ≤ 1 ∧ offset.toNat ≤ 155 ∧ count ≠ 0) :
    (s.control.capture = none →
      exec (.readCapture p offset count unlock) s = .next (s.answer p 0x53 .rejected []))
    ∧ ∀ c, s.control.capture = some c → exec (.readCapture p offset count unlock) s = .next (
        if unlock = 1 ∧ c.owner ≠ p then s.answer p 0x53 .notOwner []
        else if c.entries.length ≤ offset.toNat then s.answer p 0x53 .badValue []
        else (if unlock = 1 then s.emptyCapture else s).answer p 0x53 .ok
          (c.payload offset.toNat (min count.toNat 48))) := by
  obtain ⟨hunlock, hoffset, hcount⟩ := hallowed
  have hflag : flagOf unlock = some (unlock == 1) := flagOf_eq_some_iff.2 ⟨hunlock, rfl⟩
  have hrange : ¬ (Config.maxCaptureOffset < offset.toNat ∨ count = 0) := not_or.2 ⟨not_lt.2 hoffset, hcount⟩
  have hpos : 1 ≤ count.toNat := Nat.one_le_iff_ne_zero.2 fun h => hcount (BitVec.eq_of_toNat_eq h)
  have hclamp : clampNat 1 Config.maxCaptureCount count.toNat = min count.toNat 48 := by
    rw [clampNat_eq_max_min (by decide), max_eq_right (le_min hpos (by decide)), Config.maxCaptureCount]
  simp only [exec, execReadCapture, request_eq hm, hflag, if_neg hrange, hclamp, beq_iff_eq]
  exact ⟨fun hnone => by simp only [hnone], fun c hc => by simp only [hc]⟩

end

/-- Settles O36: the arguments first, then the buffer's state in the order of `exec_readCapture_allowed`. -/
theorem readCaptureByState : Obligations.ReadCaptureByState := by
  intro p offset count unlock s hm allowed answers
  have hdecides := fun ha : allowed => exec_readCapture_allowed (p := p) hm ha
  refine ⟨exec_readCapture_badArguments hm, fun ha hnone => ?_, fun c hc ha => ?_⟩
  · obtain ⟨hempty, -⟩ := hdecides ha
    exact hempty hnone
  · obtain ⟨-, hfull⟩ := hdecides ha
    have hfree : unlock = 0 ∨ c.owner = p → ¬ (unlock = 1 ∧ c.owner ≠ p) := by
      rintro hmine ⟨rfl, hother⟩
      exact hother (hmine.resolve_left (by decide))
    simp only [answers, hfull c hc]
    refine ⟨fun hu hother => ?_, fun hmine hend => ?_, fun hmine hlt => ?_⟩
    · rw [if_pos ⟨hu, hother⟩]
      rfl
    · rw [if_neg (hfree hmine), if_pos hend]
      rfl
    · rw [if_neg (hfree hmine), if_neg (not_le.2 hlt)]
      by_cases hu : unlock = 1
      · simp only [hu, if_true]
        cases p <;> rfl
      · simp only [hu, if_false]
        cases p <;> rfl

end Sys2Proof.Machine
end

section
/-! SUPPORT. The Key Monitor's invariant through every command (R173). -/

namespace Sys2Proof.Machine

theorem KeysOk.answer {s : State} (hs : KeysOk s) (p : Port) (code : Byte) (r : ResultCode) (pl : List Byte) :
    KeysOk (s.answer p code r pl) := hs.eq (by simp) (by simp)

theorem KeysOk.drivesZero {s : State} (hs : KeysOk s) (p : Port) : KeysOk (s.drivesZero p) :=
  hs.eq (by simp) (by simp)

theorem KeysOk.onlyPort {s t : State} {p : Port} (hs : KeysOk s) (h : OnlyPort p s t) : KeysOk t := by
  rw [h]
  exact hs.eq (by simp) (by simp)

theorem KeysOk.untilFrame {s : State} (hs : KeysOk s) (d : Nat) : KeysOk (s.untilFrame d) := hs.elapse _

theorem KeysOk.until {s : State} (hs : KeysOk s) (now d : Nat) : KeysOk (s.until now d) := hs.elapse _

/-- The mode a port resets is left for SCANNING, from HELD with a frame start (R136). -/
theorem KeysOk.resetMode {s : State} (hs : KeysOk s) (p : Port) : KeysOk (s.resetMode p) := by
  have hleft : KeysOk (s.backToScanning.raise .modeChanged p.other) := hs.eq (by simp) (by simp)
  unfold State.resetMode
  split
  · dsimp only
    split
    · exact hleft.resume
    · exact hleft
    · exact hleft
    · exact hs
    · exact hs
  · exact hs

/-- Set Grid leaves the combination (R145). -/
@[simp] theorem applyGrid_combo (s : State) (p : Port) (x y : Nat) : (s.applyGrid p x y).settings.combo = s.settings.combo := by
  simp [State.applyGrid]

/-! ## The requests that can start a frame, where a waiting combination is applied (R141) -/

theorem KeysOk.execResumeScan {p : Port} {s t : State} (hs : KeysOk s) (h : execResumeScan p s = .next t) :
    KeysOk t := by
  refine request_keeps h (hs.drivesZero p) ?_
  split
  · split
    · exact hs.endHeld.answer _ _ _ _
    · exact hs.answer _ _ _ _
  · exact hs.answer _ _ _ _

theorem KeysOk.execPortReset {p : Port} {s t : State} (hs : KeysOk s) (h : execPortReset p s = .next t) : KeysOk t := by
  refine request_keeps h (hs.drivesZero p) ?_
  exact (KeysOk.resetMode (hs.eq (by simp) (by simp)) p).answer _ _ _ _

/-! ## The Key Monitor's own events -/

/-- A sample keeps the invariant; while the Key Monitor stands there is none (R169, R172, R173). -/
theorem KeysOk.execKeySample {k0 k1 k2 k3 : Bool} {s t : State} (hs : KeysOk s)
    (h : execKeySample k0 k1 k2 k3 s = .next t) : KeysOk t := by
  unfold Machine.execKeySample at h
  split at h <;> cases h
  · exact (hs.until s.keys.pace Config.keySampleTime).sample (a := k0) (b := k1) (c := k2) (d := k3) (by simp) (by simp)
  · exact hs

/-- The timer that expires ran, so a combination is set, and SPENT is no running timer (R173, R174). -/
theorem KeysOk.execKeyRestartHoldExpiry {s t : State} (hs : KeysOk s) (h : execKeyRestartHoldExpiry s = .next t) :
    KeysOk t := by
  unfold Machine.execKeyRestartHoldExpiry at h
  split at h
  case h_1 d hrun =>
    cases h
    have hcombo : s.settings.combo ≠ .none := fun hnone => by simp [hs.none hnone] at hrun
    exact ⟨fun hnone => absurd hnone hcombo, fun _ hspent => HoldTimer.noConfusion hspent⟩
  all_goals
    cases h
    exact hs

/-! ## Every command -/

/-- Every command keeps the hold timer running only while the combination's keys are PRESSED. -/
theorem KeysOk.exec {c : Instr} {s t : State} (hs : KeysOk s) (h : exec c s = .next t) : KeysOk t := by
  cases hp : ownPort c with
  | some p => exact hs.onlyPort (exec_ownPort hp h).1
  | none =>
    cases hq : settingsPort c with
    | some p =>
      exact exec_settingsPort_keeps hq h (hs.drivesZero p) (fun _ _ => hs.answer _ _ _ _) (fun _ _ _ => hs.changeSetting _ _ _ _)
    | none =>
    cases c <;> simp only [ownPort, settingsPort, reduceCtorEq] at hp hq
    case setView | abortTask | setPlan | setGrid | holdScan | coilSurvey | readCapture =>
      simp only [Machine.exec, execSetView, execAbortTask, execSetPlan, execSetGrid, execHoldScan, execCoilSurvey,
        execReadCapture] at h
      refine request_keeps h (hs.drivesZero _) ?_
      repeat' split
      all_goals exact hs.eq (by simp) (by simp)
    case resumeScan => exact hs.execResumeScan h
    case portReset => exact hs.execPortReset h
    case coldRestart p =>
      exact request_keeps (show execColdRestart p s = .next t from h) (hs.drivesZero p) (hs.restartCold.drivesZero p)
    case warmRestart p =>
      have hwarm : KeysOk s.restartWarm := hs.eq rfl rfl
      exact request_keeps (show execWarmRestart p s = .next t from h) (hs.drivesZero p) (hwarm.drivesZero p)
    case scheduledFrameStart =>
      rcases execScheduledFrameStart_next h with rfl | ⟨-, rfl⟩
      · exact hs
      · exact (hs.untilFrame _).frameStart
    case midPoint =>
      rcases execMidPoint_next h with rfl | ⟨u, rfl, rfl⟩
      · exact hs
      · exact (hs.untilFrame (s.settings.timing.framePeriod / 2)).eq (by simp) (by simp)
    case dsync =>
      rcases execDsync_next h with rfl | ⟨-, -, rfl⟩
      · exact hs
      · exact hs.dsyncPulse
    case syncTimerExpiry =>
      rcases execSyncTimerExpiry_next h with rfl | ⟨d, -, rfl⟩
      · exact hs
      · exact (hs.until d s.settings.timing.expiry).eq (by simp) (by simp)
    case slotBegin =>
      rcases execSlotBegin_next h with rfl | ⟨k, -, rfl⟩
      · exact hs
      · exact hs.beginSlot k
    case driveBusyFall =>
      rcases execDriveBusyFall_next h with rfl | ⟨k, j, -, rfl⟩
      all_goals exact hs.eq rfl rfl
    case driveBusyRise =>
      have hhigh : KeysOk (s.withBusy true) := hs.eq rfl rfl
      rcases execDriveBusyRise_next h with rfl | ⟨k, -, rfl⟩
      · exact hhigh
      · exact hhigh.endSlot k .cut
    case slipExpiry =>
      rcases execSlipExpiry_next h with rfl | ⟨k, d, -, rfl⟩
      · exact hs
      · exact (hs.untilFrame d).endSlot k .skipped
    case excitationEnd =>
      rcases execExcitationEnd_next h with rfl | ⟨u, run, d, -, rfl, rfl⟩
      · exact hs
      · exact (hs.untilFrame d).eq rfl rfl
    case listenEnd r =>
      rcases execListenEnd_next h with rfl | ⟨k, j, d, -, rfl⟩
      · exact hs
      · have hhanded : KeysOk ((s.untilFrame d).handOn j r) := (hs.untilFrame d).eq (by simp) (by simp)
        exact hhanded.endSlot k .done
    case autoResumeExpiry =>
      rcases execAutoResumeExpiry_next h with rfl | ⟨d, n, -, rfl⟩
      · exact hs
      · exact (hs.until d n).endHeld
    case startingEnd =>
      rcases execStartingEnd_next h with rfl | ⟨d, -, rfl⟩
      · exact hs
      · have hbegun : KeysOk (s.until d Config.startingTime).scanBegun := (hs.until d Config.startingTime).eq rfl rfl
        exact KeysOk.frameStart (hbegun.eq (by simp) (by simp))
    case keySample => exact hs.execKeySample h
    case keyRestartHoldExpiry => exact hs.execKeyRestartHoldExpiry h
    case powerOn | resetNLow | resetNRise | powerFail =>
      rcases exec_power_next (by simp) h with rfl | ⟨u, rfl | rfl⟩
      · exact hs.eq rfl rfl
      all_goals exact KeysOk.rest rfl

/-- Settles O17: each command keeps `KeysOk`, case by case, and so does the passing of time. -/
theorem stepKeepsKeys : Obligations.StepKeepsKeys := fun _ _ =>
  step_keeps (fun _ hs => hs.elapse 1) (fun _ _ hs => hs.eq rfl rfl) (fun _ _ _ => KeysOk.exec)

end Sys2Proof.Machine
end

section
/-! SUPPORT. The state right after reset is safe (R169 to R171). -/

namespace Sys2Proof.Machine

/-- Both ports stand at their start-up values right after reset (R170). -/
theorem reset_port (p : Port) : State.reset.port p = defaultPort := by cases p <;> rfl

/-- Settles O8: each block stands as a restart leaves it, and a restart keeps its invariant. -/
theorem resetIsSafe : Obligations.ResetIsSafe where
  ring := RingOk.empty rfl rfl fun p => by rw [reset_port]; rfl
  ports p := by rw [reset_port]; exact defaultPort_ok
  store := storeOk_default rfl rfl rfl rfl fun p => by rw [reset_port]; rfl
  mode := ModeOk.restart rfl rfl rfl
  tasks := TasksOk.restart rfl rfl fun p => by rw [reset_port]; rfl
  quiet := QuietOk.atStart fun p => by rw [reset_port]; rfl
  sync := SyncOk.restart rfl rfl rfl
  tools := ToolsOk.vacant rfl rfl
  keys := KeysOk.rest rfl

end Sys2Proof.Machine
end

section
/-! SUPPORT. KEY_SAMPLE: the four keys taken in turn, and the hold timer they leave (R172, R173). -/

namespace Sys2Proof.Machine

/-! ## One key taken -/

/-- A sample is accepted when it repeats the sample before it and differs from the accepted level (R172). -/
theorem accepts_iff {key : Key} {x : Bool} : key.accepts x = true ↔ key.previous = some x ∧ x ≠ key.accepted := by
  simp [Key.accepts]

/-- An accepted sample turns the accepted level (R172). -/
theorem accepted_of_accepts {key : Key} {x : Bool} (h : key.accepts x = true) : key.accepted = !x := by
  obtain ⟨-, hne⟩ := accepts_iff.1 h
  exact Bool.eq_not.2 hne.symm

theorem sampled_accepted (key : Key) (x : Bool) :
    (key.sampled x).accepted = if key.accepts x = true then x else key.accepted := rfl

@[simp] theorem key_withHold (k : Keys) (h : HoldTimer) (j : Fin 4) : ({ k with hold := h } : Keys).key j = k.key j := by
  fin_cases j <;> rfl

@[simp] theorem key_withPace (k : Keys) (d : Nat) (j : Fin 4) : ({ k with pace := d } : Keys).key j = k.key j := by
  fin_cases j <;> rfl

/-- A RELEASED key of a combination keeps it from being all PRESSED (R173). -/
theorem allPressed_eq_false {k : Keys} {c : KeyCombo} {i : Fin 4} (hi : i.val < c.size)
    (h : (k.key i).accepted = false) : k.allPressed c = false :=
  Bool.eq_false_iff.2 fun hall => by simp [(allPressed_iff k c).1 hall i hi] at h

/-- Only the accepted levels of the combination's own keys tell whether all of them are PRESSED (R173). -/
theorem allPressed_congr {k u : Keys} {c : KeyCombo}
    (h : ∀ i : Fin 4, i.val < c.size → (u.key i).accepted = (k.key i).accepted) : u.allPressed c = k.allPressed c := by
  rw [Bool.eq_iff_iff, allPressed_iff, allPressed_iff]
  exact forall₂_congr fun i hi => by rw [h i hi]

section
variable {k : Keys} {c : KeyCombo} {i : Fin 4} {x : Bool}

/-- The key that is taken is sampled, and no other (R172). -/
theorem take_key (j : Fin 4) : (k.take c i x).key j = if j = i then (k.key i).sampled x else k.key j := by
  unfold Keys.take
  dsimp only
  split
  · rw [key_withHold, setKey_key]
  · rw [setKey_key]

/-- The hold timer looks at the combination's keys alone, and at them when a level is accepted (R173). -/
theorem take_hold_of_not_accepts (h : ¬ ((k.key i).accepts x = true ∧ i.val < c.size)) :
    (k.take c i x).hold = k.hold := by
  unfold Keys.take
  dsimp only
  split
  · next ha =>
    have hi : ¬ i.val < c.size := fun hi => h ⟨ha, hi⟩
    simp only [holdAfterAcceptance, if_neg hi, setKey_hold]
  · exact setKey_hold ..

/-- The acceptance of RELEASED stops the hold timer (R173). -/
theorem take_hold_of_release (hx : x = false) (ha : (k.key i).accepts x = true) (hi : i.val < c.size) :
    (k.take c i x).hold = .stopped := by
  subst hx
  have hreleased : (k.setKey i ((k.key i).sampled false)).allPressed c = false :=
    allPressed_eq_false hi (by rw [setKey_key, if_pos rfl, sampled_accepted, if_pos ha])
  simp only [Keys.take, if_pos ha, holdAfterAcceptance, if_pos hi, setKey_hold, hreleased]
  cases k.hold <;> rfl

/-- The acceptance of PRESSED starts a STOPPED hold timer when it completes the combination, and else leaves it (R173). -/
theorem take_hold_of_press (hx : x = true) (ha : (k.key i).accepts x = true) (hi : i.val < c.size) :
    (k.take c i x).hold = if k.hold = .stopped ∧ (k.take c i x).allPressed c = true then .running 0 else k.hold := by
  subst hx
  have hlevels : (k.take c i true).allPressed c = (k.setKey i ((k.key i).sampled true)).allPressed c :=
    allPressed_congr fun j _ => by rw [take_key, setKey_key]
  rw [hlevels]
  simp only [Keys.take, if_pos ha, holdAfterAcceptance, if_pos hi, setKey_hold]
  cases k.hold <;> simp

end

/-! ## The keys taken in turn -/

/-- The sample of key `i` is accepted, and the combination looks at the key. -/
def Keys.hits (k : Keys) (c : KeyCombo) (f : Fin 4 → Bool) (i : Fin 4) : Bool :=
  (k.key i).accepts (f i) && decide (i.val < c.size)

/-- `u` is the Key Monitor `k` after its first `n` keys were taken at the samples `f`: the keys, and the hold timer by what
it was. -/
structure Taken (k : Keys) (c : KeyCombo) (f : Fin 4 → Bool) (n : Nat) (u : Keys) : Prop where
  key : ∀ j, u.key j = if j.val < n then (k.key j).sampled (f j) else k.key j
  stopped : k.hold = .stopped → u.hold
    = if (∃ i, i.val < n ∧ k.hits c f i = true) ∧ u.allPressed c = true then .running 0 else .stopped
  running : ∀ d, k.hold = .running d → u.hold = if u.allPressed c = true then .running d else .stopped
  spent : k.hold = .spent → u.hold
    = if ∃ i, i.val < n ∧ k.hits c f i = true ∧ f i = false then .stopped else .spent

section
variable {k u : Keys} {c : KeyCombo} {f : Fin 4 → Bool} {n : Nat} {i : Fin 4}

theorem hits_iff : k.hits c f i = true ↔ (k.key i).accepts (f i) = true ∧ i.val < c.size := by simp [Keys.hits]

/-- Before any key is taken. -/
theorem Taken.start (h : HoldOk k c) : Taken k c f 0 k := by
  obtain ⟨-, hrunning⟩ := h
  exact ⟨fun j => by simp, fun hs => by simp [hs], fun d hd => by simp [hd, hrunning d hd], fun hs => by simp [hs]⟩

/-- Among the first `i + 1` keys, one with a property is key `i` or before it. -/
theorem exists_lt_succ_iff {P : Fin 4 → Prop} :
    (∃ j : Fin 4, j.val < i.val + 1 ∧ P j) ↔ (∃ j : Fin 4, j.val < i.val ∧ P j) ∨ P i := by
  constructor
  · rintro ⟨j, hj, hp⟩
    rcases Nat.lt_succ_iff_lt_or_eq.1 hj with hlt | heq
    · exact .inl ⟨j, hlt, hp⟩
    · exact .inr (Fin.ext heq ▸ hp)
  · rintro (⟨j, hj, hp⟩ | hp)
    · exact ⟨j, Nat.lt_succ_of_lt hj, hp⟩
    · exact ⟨i, Nat.lt_succ_self _, hp⟩

/-- The key taken next stands as it did at the start. -/
theorem Taken.key_next (h : Taken k c f i u) : u.key i = k.key i := by rw [h.key, if_neg (lt_irrefl _)]

theorem Taken.take_key (h : Taken k c f i u) (j : Fin 4) :
    (u.take c i (f i)).key j = if j.val < i.val + 1 then (k.key j).sampled (f j) else k.key j := by
  rw [Machine.take_key, h.key_next, h.key]
  by_cases hj : j = i
  · subst hj
    simp
  · have hlt : j.val < i.val + 1 ↔ j.val < i.val := by
      have : j.val ≠ i.val := fun e => hj (Fin.ext e)
      omega
    simp only [if_neg hj, hlt]

/-- A combination whose key was accepted RELEASED at this sample is not all PRESSED any more. -/
theorem Taken.not_allPressed (hkey : ∀ j : Fin 4, u.key j = if j.val < n then (k.key j).sampled (f j) else k.key j)
    (hi : i.val < n) (hhit : k.hits c f i = true) (hf : f i = false) : u.allPressed c = false := by
  obtain ⟨haccepts, hsize⟩ := hits_iff.1 hhit
  refine allPressed_eq_false hsize ?_
  rw [hkey, if_pos hi, sampled_accepted, if_pos haccepts, hf]

/-- The next key is not the combination's or keeps its level: so does the hold timer. -/
theorem Taken.take_miss (h : Taken k c f i u) (hmiss : k.hits c f i = false) :
    Taken k c f (i.val + 1) (u.take c i (f i)) := by
  have hnot : ¬ ((k.key i).accepts (f i) = true ∧ i.val < c.size) := fun hh => by simp [hits_iff.2 hh] at hmiss
  have hhold : (u.take c i (f i)).hold = u.hold := take_hold_of_not_accepts (by rwa [h.key_next])
  have hlevels : (u.take c i (f i)).allPressed c = u.allPressed c := allPressed_congr fun j hj => by
    rw [Machine.take_key]
    split
    · next e =>
      subst e
      rw [sampled_accepted, if_neg fun ha => hnot ⟨h.key_next ▸ ha, hj⟩]
    · rfl
  refine ⟨h.take_key, fun hs => ?_, fun d hd => ?_, fun hs => ?_⟩
  · simp only [exists_lt_succ_iff, hmiss, hlevels, hhold, h.stopped hs, reduceCtorEq, or_false]
  · rw [hhold, hlevels, h.running d hd]
  · simp only [exists_lt_succ_iff, hmiss, hhold, h.spent hs, reduceCtorEq, false_and, or_false]

/-- The next key is the combination's and is accepted RELEASED: the hold timer stops. -/
theorem Taken.take_release (h : Taken k c f i u) (hhit : k.hits c f i = true) (hf : f i = false) :
    Taken k c f (i.val + 1) (u.take c i (f i)) := by
  obtain ⟨haccepts, hsize⟩ := hits_iff.1 hhit
  have hlevels : (u.take c i (f i)).allPressed c = false := not_allPressed h.take_key (Nat.lt_succ_self _) hhit hf
  have hhold : (u.take c i (f i)).hold = .stopped := take_hold_of_release hf (h.key_next ▸ haccepts) hsize
  refine ⟨h.take_key, fun _ => ?_, fun _ _ => ?_, fun _ => ?_⟩
  · rw [hhold, hlevels, if_neg (by simp)]
  · rw [hhold, hlevels, if_neg (by simp)]
  · rw [hhold, if_pos ⟨i, Nat.lt_succ_self _, hhit, hf⟩]

/-- The next key is the combination's and is accepted PRESSED, so that not all of them were: the hold timer starts if they
are now, unless a release stopped it at this sample. -/
theorem Taken.take_press (h : Taken k c f i u) (hk : HoldOk k c) (hhit : k.hits c f i = true) (hf : f i = true) :
    Taken k c f (i.val + 1) (u.take c i (f i)) := by
  obtain ⟨haccepts, hsize⟩ := hits_iff.1 hhit
  have hreleased : (k.key i).accepted = false := by rw [accepted_of_accepts haccepts, hf]; rfl
  have hbefore : u.allPressed c = false := allPressed_eq_false hsize (by rw [h.key_next, hreleased])
  have hhold := take_hold_of_press hf (h.key_next ▸ haccepts) hsize
  refine ⟨h.take_key, fun hs => ?_, fun d hd => ?_, fun hs => ?_⟩
  · have hu : u.hold = .stopped := by rw [h.stopped hs, if_neg (by simp [hbefore])]
    have hnow : ∃ j : Fin 4, j.val < i.val + 1 ∧ k.hits c f j = true := ⟨i, Nat.lt_succ_self _, hhit⟩
    simp only [hhold, hu, hnow, true_and]
  · obtain ⟨-, hrunning⟩ := hk
    rw [allPressed_eq_false hsize hreleased] at hrunning
    exact absurd (hrunning d hd) (by decide)
  · have hreleases : (∃ j : Fin 4, j.val < i.val + 1 ∧ k.hits c f j = true ∧ f j = false)
        ↔ ∃ j : Fin 4, j.val < i.val ∧ k.hits c f j = true ∧ f j = false := exists_lt_succ_iff.trans (by simp [hf])
    simp only [hhold, h.spent hs, hreleases]
    split
    · next hearlier =>
      obtain ⟨j, hj, hhit', hf'⟩ := hearlier
      rw [not_allPressed h.take_key (Nat.lt_succ_of_lt hj) hhit' hf', if_neg (by simp)]
    · rw [if_neg (by simp)]

/-- The next key is taken: it misses the combination, or is accepted RELEASED or PRESSED. -/
theorem Taken.take (h : Taken k c f i u) (hk : HoldOk k c) : Taken k c f (i.val + 1) (u.take c i (f i)) := by
  cases hhit : k.hits c f i with
  | false => exact h.take_miss hhit
  | true =>
    rcases Bool.eq_false_or_eq_true (f i) with hf | hf
    · exact h.take_press hk hhit hf
    · exact h.take_release hhit hf

/-- A sample takes all four keys (R172). -/
theorem sample_taken (hk : HoldOk k c) : Taken k c f 4 (k.sample c (f 0) (f 1) (f 2) (f 3)) := by
  have h1 : Taken k c f 1 _ := (Taken.start hk).take (i := 0) hk
  have h2 : Taken k c f 2 _ := h1.take (i := 1) hk
  have h3 : Taken k c f 3 _ := h2.take (i := 2) hk
  obtain ⟨key, stopped, running, spent⟩ := h3.take (i := 3) hk
  exact ⟨fun j => (key_withPace ..).trans (key j), stopped, running, spent⟩

end

/-! ## The event -/

section
variable {s : State} {f : Fin 4 → Bool}

@[simp] theorem until_key (now d : Nat) (i : Fin 4) : (s.until now d).keys.key i = s.keys.key i := by
  fin_cases i <;> simp [Keys.key]

/-- With power on and RESET_N high a running hold timer moves on as time passes, and only a running one (log entry 2). -/
theorem until_hold (hpower : s.pins.power = true) (hreset : s.pins.resetN = true) (now d : Nat) :
    (s.keys.hold = .stopped → (s.until now d).keys.hold = .stopped)
    ∧ (∀ e, s.keys.hold = .running e → (s.until now d).keys.hold = .running (e + (d - now)))
    ∧ (s.keys.hold = .spent → (s.until now d).keys.hold = .spent) := by
  simp +contextual [State.until, State.elapse, hpower, hreset]

/-- A sample accepts a level when it accepts one of some key (R172). -/
theorem any_accepts_iff (k : Keys) : (k.key0.accepts (f 0) || k.key1.accepts (f 1) || k.key2.accepts (f 2)
    || k.key3.accepts (f 3)) = true ↔ ∃ i, (k.key i).accepts (f i) = true := by
  simp [Fin.exists_fin_succ, Keys.key, or_assoc]

/-- Outside STARTING an event raised at both ports on a condition joins each port's record when it holds (R130). -/
theorem port_raiseBothIf_events (hm : s.control.mode ≠ .starting) (c : Bool) (e : Event) (p : Port) :
    ((s.raiseBothIf c e).port p).events = if c = true then e.addTo (s.port p).events else (s.port p).events := by
  cases c
  · rfl
  · exact congrArg PortState.events (port_raiseBoth hm e p)

/-- With power on and RESET_N high the keys are sampled when their time is up, and KeyChange is raised at both ports when
a level is accepted (R169, R172). -/
theorem exec_keySample (hpower : s.pins.power = true) (hreset : s.pins.resetN = true) :
    ∃ t, exec (.keySample (f 0) (f 1) (f 2) (f 3)) s = .next t
      ∧ t.keys = (s.until s.keys.pace 4000).keys.sample s.settings.combo (f 0) (f 1) (f 2) (f 3)
      ∧ (s.control.mode ≠ .starting → ∀ p, (t.port p).events
          = if ∃ i, (s.keys.key i).accepts (f i) = true then Event.addTo .keyChange (s.port p).events
            else (s.port p).events) := by
  refine ⟨_, if_pos (by rw [hpower, hreset]; rfl), raiseBothIf_keys .., fun hm p => ?_⟩
  refine (port_raiseBothIf_events ?_ _ .keyChange p).trans (if_congr (any_accepts_iff s.keys) ?_ ?_)
  · exact hm
  · cases p <;> rfl
  · cases p <;> rfl

end

/-- Settles O41: the four keys taken in turn (`sample_taken`), and the events of `exec_keySample`. -/
theorem keySampleAcceptsLevels : Obligations.KeySampleAcceptsLevels := by
  refine ⟨rfl, allPressed_iff, ?_⟩
  intro k0 k1 k2 k3 s hs hpower hreset sample accepts passed
  have haccepts (i : Fin 4) : (s.keys.key i).accepts (sample i) = true ↔ accepts i := accepts_iff
  obtain ⟨t, hexec, hkeys, hevents⟩ := exec_keySample (f := sample) hpower hreset
  obtain ⟨hstopped, hrunning, hspent⟩ := until_hold hpower hreset s.keys.pace 4000
  obtain ⟨hnone, hpressed⟩ := hs.until s.keys.pace 4000
  obtain ⟨key, stopped, running, spent⟩ := sample_taken (f := sample) (c := s.settings.combo) ⟨hnone, hpressed⟩
  rw [← hkeys] at key stopped running spent
  have hkey (i : Fin 4) : t.keys.key i = (s.keys.key i).sampled (sample i) := by rw [key, if_pos i.isLt, until_key]
  have hhits (i : Fin 4) : (s.until s.keys.pace 4000).keys.hits s.settings.combo sample i = true
      ↔ i.val < s.settings.combo.size ∧ accepts i := by rw [hits_iff, until_key, haccepts, and_comm]
  refine ⟨t, hexec, fun i => ?_, fun i hi => ?_, fun i hi => ?_, ?_, fun hm p => ?_, fun h => ?_, fun d h => ?_, fun h => ?_⟩
  · rw [hkey]
    rfl
  · rw [hkey, sampled_accepted, if_pos ((haccepts i).2 hi)]
  · rw [hkey, sampled_accepted, if_neg fun ha => hi ((haccepts i).1 ha)]
  · rw [hkeys]
    rfl
  · rw [hevents hm p]
    exact if_congr (exists_congr haccepts) rfl rfl
  · rw [stopped (hstopped h)]
    refine if_congr (and_congr_left' (exists_congr fun i => ?_)) rfl rfl
    rw [hhits, and_iff_right i.isLt]
  · exact running _ (hrunning d h)
  · rw [spent (hspent h)]
    refine if_congr (exists_congr fun i => ?_) rfl rfl
    rw [hhits, and_iff_right i.isLt, and_assoc]

end Sys2Proof.Machine
end

section
/-! SUPPORT. Every command answers a next state, and none reaches the queue (log entries 3, 23, 24, 26). -/

namespace Sys2Proof.Machine

/-- A transaction always answers: Fetch Response by the power alone, every other one as a request. -/
theorem exec_transaction_isNext {c : Instr} {p : Port} {code : Byte} (s : State) (hc : transactionCode c = some (p, code)) :
    ∃ t, exec c s = .next t := by
  by_cases hfetch : ∃ n, c = .fetchResponse p n
  · obtain ⟨n, rfl⟩ := hfetch
    simp only [exec, execFetchResponse]
    split <;> exact ⟨_, rfl⟩
  · obtain ⟨f, hf, -⟩ := exec_transaction_eq s hc fun n hn => hfetch ⟨n, hn⟩
    rw [hf]
    exact request_isNext p s f

/-- Every command answers: an event out of place leaves the state, every other one has its one effect (log entries 3, 23). -/
theorem exec_isNext (c : Instr) (s : State) : ∃ t, exec c s = .next t := by
  cases hc : transactionCode c with
  | some pc => exact exec_transaction_isNext s hc
  | none =>
  cases c <;> simp only [transactionCode, reduceCtorEq] at hc
  case answerReady | powerOn | resetNLow | resetNRise | powerFail => exact ⟨_, rfl⟩
  all_goals
    simp only [exec, execScheduledFrameStart, execMidPoint, execDsync, execSyncTimerExpiry, execSlotBegin,
      execDriveBusyFall, execDriveBusyRise, execSlipExpiry, execExcitationEnd, execListenEnd, execAutoResumeExpiry,
      execStartingEnd, execKeySample, execKeyRestartHoldExpiry]
  case midPoint | slotBegin | autoResumeExpiry =>
    repeat' split
    all_goals exact ⟨_, rfl⟩
  all_goals split <;> exact ⟨_, rfl⟩

/-! ## The queue -/

@[simp] theorem changeSetting_pending (s : State) (p : Port) (code : Byte) (w : Waiting) (fields : List Byte) :
    (s.changeSetting p code w fields).pending = s.pending := by simp [State.changeSetting]

@[simp] theorem restartWarm_pending (s : State) : s.restartWarm.pending = s.pending := rfl

@[simp] theorem restartCold_pending (s : State) : s.restartCold.pending = s.pending := rfl

/-- A command whose port alone it reaches leaves the queue. -/
theorem exec_ownPort_pending {c : Instr} {p : Port} {s t : State} (hp : ownPort c = some p) (h : exec c s = .next t) :
    t.pending = s.pending := by
  obtain ⟨honly, -⟩ := exec_ownPort hp h
  rw [honly, setPort_pending]

/-- A settings request leaves the queue, refused or taken. -/
theorem exec_settingsPort_pending {c : Instr} {p : Port} {s t : State} (hp : settingsPort c = some p)
    (h : exec c s = .next t) : t.pending = s.pending :=
  exec_settingsPort_keeps (P := fun u => u.pending = s.pending) hp h (drivesZero_pending ..) (fun _ _ => answer_pending ..)
    fun _ _ _ => changeSetting_pending ..

/-- A request leaves the queue when its effect does. -/
theorem request_pending {p : Port} {s t : State} {f : State → State} (h : request p s f = .next t)
    (heffect : (f s).pending = s.pending) : t.pending = s.pending :=
  request_keeps (P := fun u => u.pending = s.pending) h (drivesZero_pending ..) heffect

/-- The power and RESET_N commands leave the queue (log entry 24). -/
theorem exec_power_pending {c : Instr} {s t : State}
    (hc : c = .powerOn ∨ c = .resetNLow ∨ c = .resetNRise ∨ c = .powerFail) (h : exec c s = .next t) :
    t.pending = s.pending := by
  rcases hc with rfl | rfl | rfl | rfl <;> cases h
  case inl | inr.inr.inl => split <;> rfl
  all_goals rfl

/-- No command reaches the queue, a restart among them: what it does to the other parts of the state is built from
operations that each leave it. -/
theorem exec_pending {c : Instr} {s t : State} (h : exec c s = .next t) : t.pending = s.pending := by
  cases hp : ownPort c with
  | some p => exact exec_ownPort_pending hp h
  | none =>
  cases hq : settingsPort c with
  | some p => exact exec_settingsPort_pending hq h
  | none =>
  cases c <;> simp only [ownPort, settingsPort, reduceCtorEq] at hp hq
  case coldRestart p => exact request_pending (show execColdRestart p s = .next t from h) (by simp)
  case warmRestart p => exact request_pending (show execWarmRestart p s = .next t from h) (by simp)
  case portReset p => exact request_pending (show execPortReset p s = .next t from h) (by simp)
  case setView | abortTask | setPlan | setGrid | holdScan | resumeScan | coilSurvey | readCapture =>
    simp only [exec, execSetView, execAbortTask, execSetPlan, execSetGrid, execHoldScan, execResumeScan, execCoilSurvey,
      execReadCapture] at h
    refine request_pending h ?_
    repeat' split
    all_goals simp
  case scheduledFrameStart => rcases execScheduledFrameStart_next h with rfl | ⟨-, rfl⟩ <;> simp
  case midPoint => rcases execMidPoint_next h with rfl | ⟨u, rfl, rfl⟩ <;> simp
  case dsync => rcases execDsync_next h with rfl | ⟨-, -, rfl⟩ <;> simp
  case syncTimerExpiry => rcases execSyncTimerExpiry_next h with rfl | ⟨d, -, rfl⟩ <;> simp
  case slotBegin => rcases execSlotBegin_next h with rfl | ⟨k, -, rfl⟩ <;> simp
  case driveBusyFall => rcases execDriveBusyFall_next h with rfl | ⟨k, j, -, rfl⟩ <;> simp [State.withBusy]
  case driveBusyRise => rcases execDriveBusyRise_next h with rfl | ⟨k, -, rfl⟩ <;> simp [State.withBusy]
  case slipExpiry => rcases execSlipExpiry_next h with rfl | ⟨k, d, -, rfl⟩ <;> simp
  case excitationEnd => rcases execExcitationEnd_next h with rfl | ⟨u, run, d, -, rfl, rfl⟩ <;> simp
  case listenEnd => rcases execListenEnd_next h with rfl | ⟨k, j, d, -, rfl⟩ <;> simp
  case autoResumeExpiry => rcases execAutoResumeExpiry_next h with rfl | ⟨d, n, -, rfl⟩ <;> simp
  case startingEnd => rcases execStartingEnd_next h with rfl | ⟨d, -, rfl⟩ <;> simp [State.scanBegun]
  case keySample => rcases execKeySample_next h with rfl | ⟨u, keys, changed, rfl, rfl⟩ <;> simp
  case keyRestartHoldExpiry => rcases execKeyRestartHoldExpiry_next h with rfl | ⟨u, d, rfl, rfl⟩ <;> simp
  case powerOn | resetNLow | resetNRise | powerFail => exact exec_power_pending (by simp) h

/-- Settles O2: `exec_isNext` gives the answer, `exec_pending` its queue. -/
theorem everyCommandAnswersNextAndKeepsQueue : Obligations.EveryCommandAnswersNextAndKeepsQueue := by
  intro c s
  obtain ⟨t, ht⟩ := exec_isNext c s
  exact ⟨t, ht, exec_pending ht⟩

end Sys2Proof.Machine
end

section
/-! SUPPORT. A step's two cases, and the passing of time timer by timer (log entry 2). -/

namespace Sys2Proof.Machine

section
variable {s : State} {d : Nat}

/-- On an empty queue 1 µs passes. -/
theorem step_of_empty (h : s.pending = []) : step s = .next (s.elapse 1) := by simp [step, h]

/-- The Key Monitor's hold timer after `d` µs: it moves on while it runs (R173). -/
def HoldTimer.movedOn (d : Nat) : HoldTimer → HoldTimer
  | .running held => .running (held + d)
  | .spent => .spent
  | .stopped => .stopped

/-- With power on and RESET_N high the Key Monitor's timers move on (R172, R173). -/
theorem elapse_keys_of_on (hpower : s.pins.power = true) (hreset : s.pins.resetN = true) :
    (s.elapse d).keys = { s.keys with pace := s.keys.pace + d, hold := s.keys.hold.movedOn d } := by
  have hon : (s.pins.power && s.pins.resetN) = true := by rw [hpower, hreset]; rfl
  refine (if_pos hon).trans ?_
  cases s.keys.hold <;> rfl

/-- Without power, or with RESET_N low, the Key Monitor stands (R169). -/
theorem elapse_keys_of_off (h : ¬(s.pins.power = true ∧ s.pins.resetN = true)) : (s.elapse d).keys = s.keys :=
  if_neg fun hon => h (Bool.and_eq_true _ _ ▸ hon)

/-- Time moves the timers on and nothing else, the Key Monitor's as `keys` says. -/
theorem elapse_eq {keys : Keys} (h : (s.elapse d).keys = keys) : s.elapse d =
    { s with
      frame := { s.frame with
        timer := if s.frame.phase = .stopped then s.frame.timer else s.frame.timer + d
        syncTimer := s.frame.syncTimer.map (· + d) }
      control := { s.control with autoResume := s.control.autoResume.map (· + d) }
      pins := { s.pins with startup := s.pins.startup.map (· + d) }
      keys } := by
  subst h
  rfl

end

/-- Settles O1: the front command by the definition of a step, the time that passes by `elapse_eq`. -/
theorem stepRunsFrontCommand : Obligations.StepRunsFrontCommand := by
  refine ⟨fun c s => rfl, fun s d => ?_, fun s hqueue hpower hreset => ?_⟩
  · refine elapse_eq ?_
    split
    · next hon => exact elapse_keys_of_on hon.1 hon.2
    · next hoff => exact elapse_keys_of_off hoff
  · rw [step_of_empty hqueue]
    exact congrArg Host.Outcome.next (elapse_eq (elapse_keys_of_on hpower hreset))

end Sys2Proof.Machine
end
